-- ==== Sys2Proof/Word.lean ====
section
/-! DEFINITION. The word type of the SB4's lines, and the names of its lanes and slots (section 0.5).

Weights, counts and times are exact numbers in the spec (`Int` and `Nat` here); only what crosses a line of the part
as bits is a bit vector. -/

namespace Sys2Proof

/-- One byte of a line of the SB4: a character of the aisle link, or a byte of the commissioning port. -/
abbrev Byte := BitVec 8

/-- An article code as a frame or a slot record carries it: 24 bits (section 0.5). -/
abbrev Article := BitVec 24

/-- The four weighed lanes of the bay, numbered 1 to 4 (section 0.5). -/
inductive Lane where
  | l1 | l2 | l3 | l4
  deriving DecidableEq, Repr, Inhabited

/-- The place of a lane in a table of four. -/
def Lane.idx : Lane → Fin 4
  | .l1 => 0
  | .l2 => 1
  | .l3 => 2
  | .l4 => 3

/-- The number of a lane, 1 to 4 (section 0.5). -/
def Lane.number : Lane → Nat
  | .l1 => 1
  | .l2 => 2
  | .l3 => 3
  | .l4 => 4

/-- The four lanes in ascending order. -/
def Lane.all : List Lane := [.l1, .l2, .l3, .l4]

/-- The lane of a lane number; none outside 1 to 4. -/
def Lane.ofNumber : Nat → Option Lane
  | 1 => some .l1
  | 2 => some .l2
  | 3 => some .l3
  | 4 => some .l4
  | _ => none

/-- A slot of the slot table, 0 to 7 (section 0.5). -/
abbrev Slot := Fin 8

/-- The eight slots in ascending order. -/
def allSlots : List Slot := [0, 1, 2, 3, 4, 5, 6, 7]

end Sys2Proof
end

