-- ==== Sys2Proof/Syntax.lean ====
section
/-! DEFINITION. The commands of the SB4: one constructor per row of spec/opcode_table.json, in the table's order.

The table gives no row any bits or fields. The operands are what the rule of the row says the event carries: the lane
or slot whose timer expires, the raw code of a conversion, the payload of a frame, the byte at the port. -/

namespace Sys2Proof

/-- The result of one excitation check conversion (R13): the measured fraction of the supply as an exact quotient, or a
saturated result at either end of the converter's range. -/
inductive ExcitationReading where
  | saturated
  | fraction (num : Int) (den : Nat)
  deriving DecidableEq, Repr

/-- A rate of change of the summed bridge signal: an exact quotient, in parts of the converter's full-scale range per
millisecond, with its direction (R9). -/
structure SignalRate where
  num : Int
  den : Nat
  deriving DecidableEq, Repr

/-- The whole full-scale range in a millisecond, above every threshold (R9). -/
def SignalRate.full : SignalRate := { num := 1, den := 1 }

/-- A signal that does not change. -/
def SignalRate.zero : SignalRate := { num := 0, den := 1 }

/-- Why the receiver gave up a frame (R119, R121, R122). -/
inductive FramingError where
  /-- the stop bit of a character was sampled dominant -/
  | stopBitDominant
  /-- the start bit of a character was sampled recessive: a false start -/
  | startBitRecessive
  /-- the third character gave a length above 12 -/
  | lengthAbove12 (length : Byte)
  deriving DecidableEq, Repr

/-- The kind and payload fields of a valid frame (sections 8.1.1 and 12.1), each at the width the frame gives it. -/
inductive Payload where
  | shock
  | claim (offerStation offerTag claimType : Byte)
  | offer (tag : Byte) (article : Article) (count : BitVec 16) (grams : BitVec 24) (tol : BitVec 16) (window : Byte)
  | hush (article : Article) (minutes : Byte)
  | alert (article : Article) (status : Byte) (combined holding reorderPoint : BitVec 16)
  | notice (lane : Byte) (article : Article) (flags : Byte)
  | stock (article : Article) (holding : BitVec 16) (flags : Byte)
  | presence (restartByte health : Byte)
  deriving DecidableEq, Repr

/-- The commands of the SB4, one per row of the table, in its order. -/
inductive Instr where
  | roundStart
  | excitationCheck (reading : ExcitationReading)
  /-- whether the sample's arithmetic was done before an offset change that the lane's settle event before it made, when the
  two fall together (R4, R37) -/
  | sampleEvent (lane : Lane) (raw : BitVec 24) (computedFirst : Bool := false)
  | holdTimerExpiry (lane : Lane)
  | quietTimerExpiry
  /-- the rate of change of the summed bridge signal at the event; one that is not given is the steepest -/
  | shockComparatorEdge (rate : SignalRate := .full)
  | shockSpacingTimerExpiry
  | vddBelowHoldLevel
  | vddAtHoldLevel
  | dipFilterExpiry
  | pendingOutExpiry (tag : Byte)
  | heardOfferExpiry (station : Nat) (tag : Byte)
  /-- all entries of one station turn STALE at the same moment (R84), so the event names the station -/
  | carrierEntryStale (station : Nat)
  | carrierEntryRemoved (station : Nat)
  | settlingInExpiry
  | refreshTimerExpiry (slot : Slot)
  | takeoverTimerExpiry (slot : Slot)
  | repeatTimerExpiry (slot : Slot)
  | muteTimerExpiry (slot : Slot)
  | noticeTimerExpiry (lane : Lane)
  | presenceTimerExpiry
  | shockReception (station : Byte)
  | claimReception (station offerStation offerTag claimType : Byte)
  | offerReception (station tag : Byte) (article : Article) (count : BitVec 16) (grams : BitVec 24) (tol : BitVec 16)
      (window : Byte)
  | hushReception (station : Byte) (article : Article) (minutes : Byte)
  | alertReception (station : Byte) (article : Article) (status : Byte) (combined holding reorderPoint : BitVec 16)
  | noticeReception (station lane : Byte) (article : Article) (flags : Byte)
  | stockReception (station : Byte) (article : Article) (holding : BitVec 16) (flags : Byte)
  | presenceReception (station restartByte health : Byte)
  /-- the payload of the valid peer frame that bears this node's station number -/
  | addressConflict (payload : Payload)
  | transmissionStart
  /-- the character (from 0) and bit time (from 0) of the frame at which the event falls -/
  | lostArbitration (char bit : Nat)
  | readbackFailure (char bit : Nat)
  | dominantTimeout
  | transmissionEnd
  | quarantineExpiry
  | linkBecomesActive
  | portSelect
  /-- the bits clocked in since the last whole byte, oldest first, 0 to 7 of them -/
  | portDeselect (clocked : List Bool)
  | parameterByte (byte : Byte)
  | unknownCommand (code : Byte)
  | setStation
  | setLink
  | setNeighbours
  | writeSlots
  | writeLanes
  | captureZero
  | captureSpan
  | store
  | storeComplete
  | start
  | restart
  | readStatus
  | readLane
  | readSlot
  | readCarriers
  /-- whether VDD then stands at or above the hold level of 3.0 V -/
  | powerOn (atHoldLevel : Bool)
  | supplyDip
  | pin
  | retentionLoss
  | restartRelease (atHoldLevel : Bool)
  | startDecision
  /-- the rate of change at the event; one that is not given is none -/
  | comparatorOutputInactive (rate : SignalRate := .zero)
  | framingError (cause : FramingError)
  | lineIdle
  /-- the characters of the complete frame that failed the tests of R122 -/
  | invalidFrameDropped (frame : List Byte)
  deriving DecidableEq, Repr

end Sys2Proof
end

