-- ==== Sys2Proof/Decode.lean ====
section
/-! DEFINITION. The command that a word of the opcode table spells. -/

namespace Sys2Proof

/-- spec/opcode_table.json gives none of its rows any bits ("fixed" is absent and "fields" is empty in every row): the rows
are events of the part, not words. So no word spells a command. -/
def decodeTableWord (_nbits _w : Nat) : Option Instr := none

end Sys2Proof
end

