-- ==== Sys2Proof/Config.lean ====
section
/-! DEFINITION. The configuration of a node (section 9.1) with its defaults, the fixed figures of the spec, and the
values that the spec leaves open.

Times are whole microseconds of the SB4's timebase, so that the bit times of both link rates (10 and 20 µs, R118) and
the milliseconds and seconds of the other chapters are all whole numbers. -/

namespace Sys2Proof.Config

/-- Milliseconds of the timebase, in microseconds. -/
def ms (n : Nat) : Nat := n * 1000

/-- Seconds of the timebase, in microseconds. -/
def sec (n : Nat) : Nat := n * 1000000

/-- Minutes of the timebase, in microseconds. -/
def minutes (n : Nat) : Nat := sec (n * 60)

/-- DESIGN CHOICE (log 2): the time one step takes on an empty queue. Two bit times at 100 kbit/s, one at 50 kbit/s. -/
def tick : Nat := 20

/-- The aisle link's two bit rates (R118). -/
inductive BitRate where
  | k50   -- 50 kbit/s
  | k100  -- 100 kbit/s
  deriving DecidableEq, Repr, Inhabited

/-- One slot record of the configuration (section 9.1). Article 0 marks the slot unused. -/
structure SlotRecord where
  /-- article code, 0 to 16,777,215 -/
  article : Nat
  /-- reorder point RP, 0 to 3,996 -/
  reorderPoint : Nat
  /-- hysteresis H, 1 to 500 -/
  hysteresis : Nat
  deriving DecidableEq, Repr, Inhabited

/-- One lane record of the configuration with the lane's calibration (section 9.1). -/
structure LaneRecord where
  enabled : Bool
  slot : Slot
  /-- unit weight U, 5 to 30,000 g -/
  unitWeight : Nat
  /-- per-unit allowance p, 0 to 200 per mille -/
  allowance : Nat
  /-- base tolerance T0, 1 to 2,000 g -/
  baseTol : Nat
  /-- motion threshold M, 2 to 5,000 g -/
  motion : Nat
  /-- settle band B, 1 to 500 g -/
  band : Nat
  /-- settle count Ks, 4 to 64 -/
  settleCount : Nat
  /-- zero code Z, a signed 24-bit raw code -/
  zeroCode : Int
  /-- span S, 1 to 65,535 when captured; 0 stands for the absent span -/
  span : Nat
  spanCaptured : Bool
  deriving DecidableEq, Repr, Inhabited

/-- A whole configuration: the working copy, the running configuration and the stored image all hold one (section 9.1). -/
structure NodeConfig where
  /-- station number; 0 only as a default -/
  station : Nat
  bitRate : BitRate
  /-- match window in seconds, 5 to 120 -/
  matchWindow : Nat
  /-- shock level, 1 to 4 -/
  shockLevel : Nat
  /-- neighbour list, 0 to 4 station numbers -/
  neighbours : List Nat
  slots : Vector SlotRecord 8
  lanes : Vector LaneRecord 4
  deriving DecidableEq, Repr, Inhabited

/-- The default slot record: article 0, RP 0, H 1 (section 9.1). -/
def SlotRecord.default : SlotRecord := { article := 0, reorderPoint := 0, hysteresis := 1 }

/-- The default lane record and calibration (section 9.1). -/
def LaneRecord.default : LaneRecord :=
  { enabled := false, slot := 0, unitWeight := 1000, allowance := 0, baseTol := 50, motion := 200, band := 20,
    settleCount := 10, zeroCode := 0, span := 0, spanCaptured := false }

/-- The defaults of the working copy (section 9.1). -/
def NodeConfig.default : NodeConfig :=
  { station := 0, bitRate := .k50, matchWindow := 30, shockLevel := 2, neighbours := [],
    slots := Vector.replicate 8 SlotRecord.default, lanes := Vector.replicate 4 LaneRecord.default }

/-- FREE VALUE (log 3): the content of the image after a STORE that stopped in its WRITING phase. R166 says only that
the marker is left INVALID "whatever part of the image it had written"; which part, no rule says. The arguments are the
image before the store, the working copy being stored, and the number of STOREs that have stopped so before. -/
opaque partialImage : NodeConfig → NodeConfig → Nat → NodeConfig

/-- FREE VALUE (log 13): the edges of CPCLK in the tick that begins at an instant of the timebase, one entry for each with the
level of CPDI. Chapter 9 gives the port's clock no least rate, and the table has no row for an edge. -/
opaque portEdges : Nat → List Bool

/-- FREE VALUE (log 20): the level that the other stations leave on the filtered line in the bit time that begins at an instant
of the timebase, true for recessive. When other stations drive the line no rule says, and the table has no row for a bit. -/
opaque lineLevel : Nat → Bool

end Sys2Proof.Config
end

