-- ==== Sys2Proof/Machine/State.lean ====
section
/-! DEFINITION. The state of the SB4, block by block as section 0.3 lists the blocks, the reasons a step can stop, and
the state right after reset.

State is plain data. Times are microseconds of the timebase (Config). Every volatile block has a `cleared` value: the
state its own rule gives it at a restart. -/

namespace Sys2Proof.Machine

open Sys2Proof.Config

/-- A countdown timer: STOPPED, or RUNNING with its remaining time in microseconds. -/
inductive Timer where
  | stopped
  | running (remaining : Nat)
  deriving DecidableEq, Repr

/-! ## Weighing front end (chapter 1) -/

/-- Scan mode: round period 20 ms in FAST, 200 ms in SLOW (R2). -/
inductive ScanMode where
  | fast | slow
  deriving DecidableEq, Repr

/-- Result of the latest excitation check (R13). -/
inductive Excitation where
  | good | bad
  deriving DecidableEq, Repr

/-- Class of a sample record (R3). -/
inductive SampleClass where
  | rawOnly | inRange | over | under
  deriving DecidableEq, Repr

/-- A sample record (R3): raw code, class, and grams for an IN-RANGE sample only. -/
structure Sample where
  raw : Int
  cls : SampleClass
  grams : Option Int
  deriving DecidableEq, Repr

/-- The front end's state but for its per-lane items (section 1.1). -/
structure FrontEnd where
  mode : ScanMode
  roundTimer : Timer
  /-- time since the start of the most recent round, from which R2 recalculates the next start -/
  sinceRound : Nat
  /-- the excitation check of the round in progress is still to complete (R1) -/
  checkDue : Bool
  /-- the lane conversions of the round in progress still to complete, in lane order (R1) -/
  conversionsDue : List Lane
  /-- the lanes the most recent round began with, or those selected at an entry into CONFIGURING or RUN that no round has
  followed yet (R1, R5); the shock comparator's sum adds them (R9, log 23) -/
  roundLanes : List Lane
  /-- MODEL (log 28): the lane whose 32nd capture sample falls together with the beginning of supply hold that has just failed
  the capture (R161) -/
  lateSample : Option Lane
  quietTimer : Timer
  shockLatch : Bool
  /-- the shock comparator's output is active (R9) -/
  comparatorActive : Bool
  spacingTimer : Timer
  supplyHold : Bool
  dipFilter : Timer
  excitation : Excitation
  badRun : Nat
  goodRun : Nat
  deriving DecidableEq, Repr

/-! ## Lane settler (chapter 2) -/

/-- The states of a lane's settler (section 2.1). A lane without a settler has none. -/
inductive LaneState where
  | moving | settling | stable | held | fault
  deriving DecidableEq, Repr

/-- One lane's settler (section 2.1). -/
structure Settler where
  /-- none: the lane has no settler (NONE in READ LANE, R19) -/
  state : Option LaneState
  /-- gram samples, oldest first, at most eight -/
  window : List Int
  /-- reference weight W -/
  reference : Int
  settleCounter : Nat
  motionRun : Nat
  known : Bool
  holdTimer : Timer
  supplyWait : Bool
  outOfRangeRun : Nat
  inRangeRun : Nat
  deriving DecidableEq, Repr

/-! ## Count unit (chapter 3) -/

/-- The five tallies of a lane (R52). -/
structure Tallies where
  picks : Nat
  relocatedOut : Nat
  matchedIn : Nat
  restockIn : Nat
  foreignSeen : Nat
  deriving DecidableEq, Repr

/-- The outcome of a lane's last settle event (R53). -/
inductive SettleOutcome where
  | none | first | accepted | rejected | foreignSet | foreignCleared
  deriving DecidableEq, Repr

/-- The last settle report (R53): the outcome and the figures it has; an absent figure is none. -/
structure SettleReport where
  outcome : SettleOutcome
  /-- filtered weight F -/
  filtered : Option Int
  /-- effective weight E -/
  effective : Option Int
  /-- the count n of the settle -/
  n : Option Nat
  /-- residual e -/
  residual : Option Int
  /-- T(n) -/
  tolerance : Option Nat
  /-- movement Δn -/
  movement : Option Int
  accepted : Option Bool
  zeroTracked : Option Bool
  deriving DecidableEq, Repr

/-- One lane's count unit (section 3.1). -/
structure CountUnit where
  count : Nat
  doubt : Nat
  audit : Bool
  /-- zero offset O -/
  zeroOffset : Int
  /-- MODEL (log 27): the zero offset before the change that the lane's latest sample event made, until the lane's next sample
  event (R4, R37) -/
  priorOffset : Option Int
  tallies : Tallies
  report : SettleReport
  deriving DecidableEq, Repr

/-! ## Movement matcher (chapter 4) -/

/-- The foreign record of a lane (section 4.1). -/
structure ForeignRecord where
  article : Nat
  /-- foreign grams Gf -/
  grams : Int
  origin : Nat
  tag : Byte
  tol : Nat
  deriving DecidableEq, Repr

/-- Where a pending-out entry's OFFER stands (R59). -/
inductive OfferStatus where
  | queued | sending | sent
  deriving DecidableEq, Repr

/-- A pending-out entry (section 4.1). -/
structure PendingOut where
  tag : Byte
  article : Nat
  lane : Lane
  count : Nat
  grams : Nat
  tol : Nat
  /-- time left in the match window -/
  remaining : Nat
  status : OfferStatus
  deriving DecidableEq, Repr

/-- Whether this node has claimed a heard offer (R65). -/
inductive ClaimStatus where
  | none | queued | sent
  deriving DecidableEq, Repr

/-- Why a node claims an offer (section 12.1). -/
inductive ClaimType where
  | relocation | foreign
  deriving DecidableEq, Repr

/-- A heard-offer entry (section 4.1). -/
structure HeardOffer where
  station : Nat
  tag : Byte
  article : Nat
  count : Nat
  grams : Nat
  tol : Nat
  remaining : Nat
  claimStatus : ClaimStatus
  /-- present when the claim status is not NONE -/
  claimType : Option ClaimType
  /-- present when the claim type is RELOCATION -/
  claimLane : Option Lane
  deriving DecidableEq, Repr

/-- The movement matcher but for the foreign records, which stand with their lanes (section 4.1). -/
structure Matcher where
  /-- oldest first, at most eight -/
  pendingOut : List PendingOut
  /-- oldest first, at most eight -/
  heard : List HeardOffer
  tagCounter : Byte
  deriving DecidableEq, Repr

/-! ## Lane notices and indicators (chapter 6) -/

/-- What a lane indicator shows (R113). -/
inductive IndicatorDrive where
  | off | slowBlink | fastBlink | steady
  deriving DecidableEq, Repr

/-- The alert unit's state of one lane (section 6.1). -/
structure LaneNotice where
  audit : Bool
  foreign : Bool
  fault : Bool
  timer : Timer
  indicator : IndicatorDrive
  deriving DecidableEq, Repr

/-- All that the blocks keep for one lane: front end (warm-up count, last sample), settler, count unit, foreign record,
notice flags. -/
structure LaneUnit where
  warmUp : Nat
  lastSample : Sample
  settler : Settler
  counting : CountUnit
  foreign : Option ForeignRecord
  notice : LaneNotice
  deriving DecidableEq, Repr

/-! ## Stock view and alert unit (chapters 5 and 6) -/

/-- The alert states of a slot (section 6.1). -/
inductive AlertState where
  | normal | deferred | raised | following | muted
  deriving DecidableEq, Repr

/-- What this node last told the aisle about a slot's article (R109). -/
inductive LastSent where
  | none | raised | muted
  deriving DecidableEq, Repr

/-- All that the stock view and the alert unit keep for one article slot (sections 5.1 and 6.1). -/
structure SlotUnit where
  /-- own holding Hn -/
  holding : Nat
  ready : Bool
  uncertain : Bool
  refreshTimer : Timer
  alert : AlertState
  lastSent : LastSent
  takeoverTimer : Timer
  repeatTimer : Timer
  muteTimer : Timer
  deriving DecidableEq, Repr

/-- Band of a carrier entry (R84). -/
inductive Band where
  | fresh | stale
  deriving DecidableEq, Repr

/-- A carrier entry (section 5.1). -/
structure CarrierEntry where
  station : Nat
  /-- this node's article slot of the announced article -/
  slot : Slot
  holding : Nat
  uncertain : Bool
  /-- time since the last frame of the station, in microseconds -/
  age : Nat
  band : Band
  deriving DecidableEq, Repr

/-- The settling-in timer (R90). -/
inductive SettlingIn where
  | notStarted
  | running (remaining : Nat)
  | ended
  deriving DecidableEq, Repr

/-! ## Transmit queue (chapter 8) -/

/-- The coalescing key of a request (R139). -/
inductive RequestKey where
  | shock
  | claim (station : Nat) (tag : Byte)
  | offer (tag : Byte)
  | alert (slot : Slot)
  | notice (lane : Lane)
  | stock (slot : Slot)
  | presence
  deriving DecidableEq, Repr

/-- One request of the transmit queue (section 8.3). Its instants are those of `State.now`. -/
structure Request where
  key : RequestKey
  age : Nat
  inFlight : Bool
  /-- the instant of the renewal mark, when there is one (R140) -/
  renewal : Option Nat
  /-- claim type, for a CLAIM request only; its offer station and tag are its key -/
  claimType : Option ClaimType
  deriving DecidableEq, Repr

/-- The transmit queue with its PRESENCE schedule (sections 8.3 and 8.4). -/
structure TransmitQueue where
  requests : List Request
  presenceTimer : Timer
  restartFlag : Bool
  deriving DecidableEq, Repr

/-! ## Link controller (chapter 7) -/

/-- Link states (section 7.1). -/
inductive LinkState where
  | off | joining | active | quarantine | silenced
  deriving DecidableEq, Repr

/-- The line driver (R117). -/
inductive Driver where
  | released | driving
  deriving DecidableEq, Repr

/-- Where the receiver stands in assembling a frame (R121). -/
inductive ReceiverState where
  | stopped | searching | inCharacter | betweenCharacters | waitingForIdle
  deriving DecidableEq, Repr

/-- A frame: its sender station character, and its kind and payload (section 12.1). -/
structure Frame where
  station : Byte
  payload : Payload
  deriving DecidableEq, Repr

/-- The node's own frame on the line: the transmit progress (section 7.1). -/
structure Flight where
  frame : Frame
  /-- the request the frame was built for -/
  key : RequestKey
  /-- the bit time being sent, from 0 -/
  position : Nat
  /-- the request was withdrawn during the flight (R141) -/
  detached : Bool
  /-- the frame's own reception has been taken before its transmission end (R143) -/
  delivered : Bool
  deriving DecidableEq, Repr

/-- The link controller (section 7.1). -/
structure Link where
  state : LinkState
  driver : Driver
  /-- set by a dominant timeout until the node next sends a recessive bit (R127) -/
  driverInhibited : Bool
  recessiveCount : Nat
  spacing : Bool
  receiver : ReceiverState
  buffer : List Byte
  /-- the bits that the receiver has sampled of the character in progress, start bit first (R119); ten of them wait for the
  command that tells what the character has ended -/
  bits : List Bool
  flight : Option Flight
  dominantTimer : Nat
  health : Nat
  quarantineTimer : Timer
  addressConflict : Bool
  /-- the own frame whose transmission has ended whole and whose reception is still to be taken (R123) -/
  ownDelivery : Option Frame
  deriving DecidableEq, Repr

/-! ## Commissioning port (chapter 9) -/

/-- The commands of the port (section 9.3). -/
inductive PortCommand where
  | setStation | setLink | setNeighbours | writeSlots | writeLanes | captureZero | captureSpan | store | start | restart
  | readStatus | readLane | readSlot | readCarriers
  deriving DecidableEq, Repr

/-- The command whose parameter bytes are expected (section 9.1). -/
inductive InProgress where
  | none
  | ignoring
  | active (command : PortCommand)
  deriving DecidableEq, Repr

/-- Result codes of the port (R152). -/
inductive ResultCode where
  | ok | busy | refusedState | refusedRange | refusedCheck | captureFailed | storeFailed | incomplete
  deriving DecidableEq, Repr

/-- A long operation (section 9.1). -/
inductive Operation where
  | none | captureZero | captureSpan | store
  deriving DecidableEq, Repr

/-- The progress of a capture (R159). -/
structure Capture where
  lane : Lane
  load : Nat
  samples : Nat
  sum : Int
  deriving DecidableEq, Repr

/-- The commissioning port but for the working copy (section 9.1). -/
structure Port where
  /-- the rising edges taken since the last whole byte, 0 to 7 -/
  bitCount : Nat
  /-- the bits of the current incoming byte, oldest first -/
  incoming : List Bool
  outgoing : Byte
  /-- MODEL (log 13): a rising edge of CPCLK has been taken, and the falling edge after it, at which CPDO changes, is still to
  come (R149) -/
  fallDue : Bool
  command : InProgress
  position : Nat
  /-- the parameter bytes that a command which has not completed has taken; for a window write its two index bytes -/
  params : List Byte
  /-- the record index of a window write: a slot index or a lane number -/
  windowCounter : Nat
  recordBuffer : List Byte
  /-- a record of the present window write has been refused (R156) -/
  recordRefused : Bool
  reply : Option (List Byte)
  operation : Operation
  capture : Option Capture
  result : ResultCode
  detail : Nat
  deriving DecidableEq, Repr

/-! ## Start-up and store (chapter 10), and the input pins -/

/-- Node states (section 10.1). -/
inductive NodeState where
  | starting | configuring | run
  deriving DecidableEq, Repr

/-- Restart causes (R164). -/
inductive RestartCause where
  | powerOn | supplyDip | pin | command
  deriving DecidableEq, Repr

/-- The phases of a STORE (section 10.1). -/
inductive StorePhase where
  | none | markerCleared | writing
  deriving DecidableEq, Repr

/-- The start-up and store block (section 10.1). -/
structure StartUp where
  node : NodeState
  startDelay : Timer
  cause : RestartCause
  /-- VDD fell below 1.8 V in this held restart, so the record of the cause is lost (R164) -/
  causeLost : Bool
  /-- the non-volatile image -/
  image : NodeConfig
  /-- the valid marker: true for VALID -/
  markerValid : Bool
  storePhase : StorePhase
  /-- MODEL (log 3): the STOREs that a hold or a restart has stopped, by which the free image of the next one is told apart -/
  stoppedStores : Nat
  /-- time since the indicator clock started at the start decision; none while it does not run (R114) -/
  indicatorClock : Option Nat
  deriving DecidableEq, Repr

/-- VDD against the three levels of the supply monitor (section 10.1). -/
inductive VddLevel where
  | belowRetention   -- below 1.8 V
  | belowRestart     -- 1.8 V to below 2.6 V
  | belowHold        -- 2.6 V to below 3.0 V
  | atHold           -- 3.0 V or above
  deriving DecidableEq, Repr

/-- The levels of the input pins that the rules read: CPSEL, RESETN and VDD. -/
structure Pins where
  cpselLow : Bool
  resetnLow : Bool
  vdd : VddLevel
  deriving DecidableEq, Repr

/-! ## The whole part -/

/-- The state of the SB4, and the queue of commands that wait. -/
structure State where
  frontEnd : FrontEnd
  lanes : Vector LaneUnit 4
  matcher : Matcher
  slots : Vector SlotUnit 8
  carriers : Vector (Option CarrierEntry) 32
  settlingIn : SettlingIn
  queue : TransmitQueue
  link : Link
  port : Port
  startUp : StartUp
  /-- the working copy -/
  working : NodeConfig
  /-- the running configuration, in force in RUN -/
  running : NodeConfig
  pins : Pins
  /-- the node's timebase in microseconds: request ages and renewal marks are instants on it (section 8.3). It moves with the
  ticks alone, so events between two ticks are of one instant (log 2) -/
  now : Nat
  /-- MODEL: the commands that wait, first in, first out -/
  pending : List Instr
  deriving DecidableEq, Repr

/-- Why a step can stop with a fault. No rule of the spec stops the part, so no command faults and there is no reason:
an event whose conditions do not hold changes nothing (log 1). -/
inductive Fault where
  deriving DecidableEq, Repr

/-- Why a step can be refused. -/
inductive Refusal where
  /-- The command of that mnemonic has no meaning in the model. Raised by an arm of `exec` alone; safe. No arm raises it:
  every command has its meaning. -/
  | notModelled (mnemonic : String)
  deriving DecidableEq, Repr

/-! ## Cleared blocks -/

/-- The last sample before any conversion: raw code 0, RAW-ONLY, no grams (R17). -/
def Sample.cleared : Sample := { raw := 0, cls := .rawOnly, grams := none }

/-- The front end at a restart (R17), before the start decision starts its rounds. -/
def FrontEnd.cleared : FrontEnd :=
  { mode := .fast, roundTimer := .stopped, sinceRound := 0, checkDue := false, conversionsDue := [], roundLanes := [],
    lateSample := none, quietTimer := .stopped, shockLatch := false, comparatorActive := false, spacingTimer := .stopped,
    supplyHold := false, dipFilter := .stopped, excitation := .good, badRun := 0, goodRun := 0 }

/-- A lane without a settler (R19). -/
def Settler.cleared : Settler :=
  { state := none, window := [], reference := 0, settleCounter := 0, motionRun := 0, known := false,
    holdTimer := .stopped, supplyWait := false, outOfRangeRun := 0, inRangeRun := 0 }

/-- A settler at RUN entry (R19). -/
def Settler.runEntry : Settler := { Settler.cleared with state := some .moving }

/-- All tallies 0 (R38). -/
def Tallies.zero : Tallies := { picks := 0, relocatedOut := 0, matchedIn := 0, restockIn := 0, foreignSeen := 0 }

/-- A settle report with an outcome and no figures (R53). -/
def SettleReport.bare (o : SettleOutcome) : SettleReport :=
  { outcome := o, filtered := none, effective := none, n := none, residual := none, tolerance := none, movement := none,
    accepted := none, zeroTracked := none }

/-- A count unit at a restart and at RUN entry (R38). -/
def CountUnit.cleared : CountUnit :=
  { count := 0, doubt := 0, audit := false, zeroOffset := 0, priorOffset := none, tallies := Tallies.zero,
    report := SettleReport.bare .none }

/-- The alert unit's items of a lane at a restart and at RUN entry (R96). -/
def LaneNotice.cleared : LaneNotice :=
  { audit := false, foreign := false, fault := false, timer := .stopped, indicator := .off }

/-- A lane of a part that has entered neither CONFIGURING nor RUN: warm-up 8, no sample, no settler. -/
def LaneUnit.cleared : LaneUnit :=
  { warmUp := 8, lastSample := Sample.cleared, settler := Settler.cleared, counting := CountUnit.cleared, foreign := none,
    notice := LaneNotice.cleared }

/-- The matcher at a restart and at RUN entry (R55). -/
def Matcher.cleared : Matcher := { pendingOut := [], heard := [], tagCounter := 0 }

/-- A slot at a restart and at RUN entry (R78, R96). -/
def SlotUnit.cleared : SlotUnit :=
  { holding := 0, ready := false, uncertain := false, refreshTimer := .stopped, alert := .normal, lastSent := .none,
    takeoverTimer := .stopped, repeatTimer := .stopped, muteTimer := .stopped }

/-- The transmit queue and the PRESENCE schedule at a restart (section 8.3, R145). -/
def TransmitQueue.cleared : TransmitQueue := { requests := [], presenceTimer := .stopped, restartFlag := true }

/-- The link controller from a restart until RUN entry (R133). -/
def Link.cleared : Link :=
  { state := .off, driver := .released, driverInhibited := false, recessiveCount := 0, spacing := false,
    receiver := .stopped, buffer := [], bits := [], flight := none, dominantTimer := 0, health := 0, quarantineTimer := .stopped,
    addressConflict := false, ownDelivery := none }

/-- The commissioning port at a restart (R147). -/
def Port.cleared : Port :=
  { bitCount := 0, incoming := [], outgoing := 0, fallDue := false, command := .none, position := 0, params := []
    windowCounter := 0,
    recordBuffer := [], recordRefused := false, reply := none, operation := .none, capture := none, result := .ok,
    detail := 0 }

/-- The machine right after reset: a part as it leaves the factory (valid marker INVALID, section 10.3) whose POWER_ON
restart has just begun with RESETN high, so that its start delay runs from 25 ms (R164). The image's content, the levels
of CPSEL and VDD, and the fields that are the model's own are named in log 4. -/
def State.reset : State :=
  { frontEnd := FrontEnd.cleared
    lanes := Vector.replicate 4 LaneUnit.cleared
    matcher := Matcher.cleared
    slots := Vector.replicate 8 SlotUnit.cleared
    carriers := Vector.replicate 32 none
    settlingIn := .notStarted
    queue := TransmitQueue.cleared
    link := Link.cleared
    port := Port.cleared
    startUp :=
      { node := .starting, startDelay := .running (ms 25), cause := .powerOn, causeLost := false,
        image := NodeConfig.default, markerValid := false, storePhase := .none, stoppedStores := 0, indicatorClock := none }
    working := NodeConfig.default
    running := NodeConfig.default
    pins := { cpselLow := false, resetnLow := false, vdd := .atHold }
    now := 0
    pending := [] }

end Sys2Proof.Machine
end

