-- ==== Sys2Proof/Machine/Operands.lean ====
section
/-! DEFINITION. The arithmetic of the SB4 and the reading and writing of its operands: rounding (section 0.5), byte
fields (R172), gram samples (R3), counts (R40 to R43), the excitation check (R13), window records (section 12.2.1). -/

namespace Sys2Proof.Machine

open Sys2Proof.Config

/-! ## Rounding and clamping (section 0.5) -/

/-- `a ÷ b` rounded to the nearest whole number, an exact half away from zero. -/
def roundDiv (a : Int) (b : Nat) : Int :=
  a.sign * (((2 * a.natAbs + b) / (2 * b) : Nat) : Int)

/-- `a ÷ b` rounded up. -/
def ceilDiv (a b : Nat) : Nat := (a + b - 1) / b

/-- A number set to the nearest end of lo to hi when it falls outside. -/
def clampNat (lo hi n : Nat) : Nat := if n < lo then lo else if hi < n then hi else n

/-- A number set to the nearest end of lo to hi when it falls outside. -/
def clampInt (lo hi n : Int) : Int := if n < lo then lo else if hi < n then hi else n

/-! ## Byte fields, most significant byte first (R172) -/

/-- The number that a field of bytes carries. -/
def fieldNat (bytes : List Byte) : Nat := bytes.foldl (fun acc b => acc * 256 + b.toNat) 0

/-- The number that a signed 3-byte field carries. -/
def fieldSigned24 (bytes : List Byte) : Int := (BitVec.ofNat 24 (fieldNat bytes)).toInt

/-- A 1-byte field. -/
def u8 (n : Nat) : List Byte := [BitVec.ofNat 8 n]

/-- A 2-byte field. -/
def u16 (n : Nat) : List Byte := [BitVec.ofNat 8 (n / 256), BitVec.ofNat 8 n]

/-- A 3-byte field. -/
def u24 (n : Nat) : List Byte := [BitVec.ofNat 8 (n / 65536), BitVec.ofNat 8 (n / 256), BitVec.ofNat 8 n]

/-- A 4-byte field. -/
def u32 (n : Nat) : List Byte :=
  [BitVec.ofNat 8 (n / 16777216), BitVec.ofNat 8 (n / 65536), BitVec.ofNat 8 (n / 256), BitVec.ofNat 8 n]

/-- A signed 2-byte field, two's complement. -/
def i16 (z : Int) : List Byte := u16 (BitVec.ofInt 16 z).toNat

/-- A signed 3-byte field, two's complement. -/
def i24 (z : Int) : List Byte := u24 (BitVec.ofInt 24 z).toNat

/-- A signed 4-byte field, two's complement. -/
def i32 (z : Int) : List Byte := u32 (BitVec.ofInt 32 z).toNat

/-- The value of a flag bit at a place of its byte: 1 when the flag is set. -/
def flagBit (place : Nat) (b : Bool) : Nat := if b then 2 ^ place else 0

/-- A timer's remaining time; 0 when STOPPED (R173). -/
def Timer.remaining : Timer → Nat
  | .stopped => 0
  | .running t => t

/-- A timer is RUNNING. -/
def Timer.isRunning : Timer → Bool
  | .stopped => false
  | .running _ => true

/-- A timer's time has run out, and its expiry is due: RUNNING with nothing left (log 2). A timer that another event has
started again is not due, so its expiry does not happen. -/
def Timer.due (t : Timer) : Bool := decide (t = .running 0)

/-- A time in whole seconds, rounded up (R173). -/
def wholeSeconds (t : Nat) : Nat := ceilDiv t 1000000

/-- A time in whole milliseconds, rounded up. -/
def wholeMs (t : Nat) : Nat := ceilDiv t 1000

/-! ## Gram samples (R3) -/

/-- The grams of a raw code before the range test: q = ((r − Z) × S) ÷ 65,536, rounded, less the zero offset. -/
def gramsOf (zero : Int) (span : Nat) (offset raw : Int) : Int :=
  roundDiv ((raw - zero) * (span : Int)) 65536 - offset

/-- The sample record of a raw code under a lane's calibration and zero offset (R3, steps 1 to 4). -/
def sampleOf (lane : LaneRecord) (offset : Int) (code : BitVec 24) : Sample :=
  let raw := code.toInt
  if raw = 8388607 then { raw := raw, cls := .over, grams := none }
  else if raw = -8388608 then { raw := raw, cls := .under, grams := none }
  else if lane.spanCaptured = false then { raw := raw, cls := .rawOnly, grams := none }
  else
    let g := gramsOf lane.zeroCode lane.span offset raw
    if 99999 < g then { raw := raw, cls := .over, grams := none }
    else if g < -99999 then { raw := raw, cls := .under, grams := none }
    else { raw := raw, cls := .inRange, grams := some g }

/-- The excitation check is GOOD when the fraction lies from 0.7125 to 0.7875; a saturated result is BAD (R13). -/
def excitationOf : ExcitationReading → Excitation
  | .saturated => .bad
  | .fraction num den =>
    if 7125 * (den : Int) ≤ 10000 * num ∧ 10000 * num ≤ 7875 * (den : Int) then .good else .bad

/-- The threshold of a shock level, in ten-thousandths of the full-scale range per millisecond (R9). -/
def shockThreshold : Nat → Nat
  | 1 => 25
  | 2 => 50
  | 3 => 100
  | _ => 200

/-- A rate of change exceeds the threshold of a shock level, in either direction (R9). -/
def exceedsThreshold (level : Nat) (rate : SignalRate) : Bool :=
  decide (shockThreshold level * rate.den < 10000 * rate.num.natAbs)

/-! ## The window (R21) -/

/-- Largest sample of a window; 0 for an empty one. -/
def windowMax : List Int → Int
  | [] => 0
  | x :: xs => xs.foldl max x

/-- Smallest sample of a window; 0 for an empty one. -/
def windowMin : List Int → Int
  | [] => 0
  | x :: xs => xs.foldl min x

/-- The spread of a window (R21). -/
def spread (w : List Int) : Int := windowMax w - windowMin w

/-- A window is narrow when it is full and its spread is B or less (R21). -/
def narrow (band : Nat) (w : List Int) : Bool := decide (w.length = 8) && decide (spread w ≤ (band : Int))

/-- The filtered weight F of a full window: the sum of its samples divided by 8, rounded (R21). -/
def filteredWeight (w : List Int) : Int := roundDiv w.sum 8

/-- A sample joins the window as the newest entry; the oldest of eight leaves first (R20). -/
def pushSample (w : List Int) (g : Int) : List Int := if 8 ≤ w.length then w.drop (w.length - 7) ++ [g] else w ++ [g]

/-! ## Counts (R40 to R43, R48, R49) -/

/-- Tu = ceiling(U × p ÷ 1,000) (R42). -/
def perUnitTol (lane : LaneRecord) : Nat := ceilDiv (lane.unitWeight * lane.allowance) 1000

/-- T(n) = T0 + n × Tu (R42). -/
def tolerance (lane : LaneRecord) (n : Nat) : Nat := lane.baseTol + n * perUnitTol lane

/-- The count of an effective weight: E ÷ U, rounded, clamped to 0 to 999 (R41). -/
def countOf (lane : LaneRecord) (effective : Int) : Nat :=
  (clampInt 0 999 (roundDiv effective lane.unitWeight)).toNat

/-- The figures of one settle (R40 to R43). -/
structure Figures where
  effective : Int
  n : Nat
  residual : Int
  tolerance : Nat
  accepted : Bool
  deriving DecidableEq, Repr

/-- The figures of a settle with filtered weight F on a lane whose foreign record has Gf grams, 0 for none (R40 to R43). -/
def figuresOf (lane : LaneRecord) (filtered foreignGrams : Int) : Figures :=
  let effective := filtered - foreignGrams
  let n := countOf lane effective
  let residual := effective - (n : Int) * (lane.unitWeight : Int)
  let tol := tolerance lane n
  { effective := effective, n := n, residual := residual, tolerance := tol,
    accepted := decide (residual.natAbs ≤ tol) }

/-- The tracking bound Zb = min(T0, floor(U ÷ 4)) (R48). -/
def trackingBound (lane : LaneRecord) : Nat := min lane.baseTol (lane.unitWeight / 4)

/-- The doubt counter after a settle (R44). -/
def nextDoubt (accepted : Bool) (doubt : Nat) : Nat := if accepted then doubt - 1 else min 3 (doubt + 1)

/-- The AUDIT flag after the doubt counter has moved (R44). -/
def nextAudit (doubt : Nat) (audit : Bool) : Bool := if doubt = 3 then true else if doubt = 0 then false else audit

/-! ## Sums with an end (R52) -/

/-- A tally raised, not above 65,535. -/
def tallyUp (t n : Nat) : Nat := min 65535 (t + n)

/-! ## Payload fields (section 12.1) -/

/-- The claim type of a CLAIM's third payload byte; none for another value (R137). -/
def claimTypeOf (b : Byte) : Option ClaimType :=
  if b = 1 then some .relocation else if b = 2 then some .foreign else none

/-- The claim type's byte. -/
def claimTypeCode : ClaimType → Byte
  | .relocation => 1
  | .foreign => 2

/-- The status of an ALERT frame (section 12.1). -/
inductive AlertStatus where
  | raised | cleared | muted
  deriving DecidableEq, Repr

/-- The status that an ALERT's status byte carries; none for another value (R104). -/
def alertStatusOf (b : Byte) : Option AlertStatus :=
  if b = 1 then some .raised else if b = 2 then some .cleared else if b = 3 then some .muted else none

/-- The status byte of an ALERT. -/
def alertStatusCode : AlertStatus → Byte
  | .raised => 1
  | .cleared => 2
  | .muted => 3

/-- The restart flag of a PRESENCE's restart byte: bit 7. -/
def restartFlagOf (b : Byte) : Bool := b.getLsbD 7

/-- The restart cause as PRESENCE and READ STATUS code it. -/
def causeCode : RestartCause → Nat
  | .powerOn => 1
  | .supplyDip => 2
  | .pin => 3
  | .command => 4

/-- A station number from 1 to 120 (section 0.5). -/
def validStation (n : Nat) : Bool := decide (1 ≤ n) && decide (n ≤ 120)

/-! ## Window records (section 12.2.1, R157, R158) -/

/-- The slot record of eight bytes, clamped (R158). -/
def slotRecordOf (bytes : List Byte) : SlotRecord :=
  { article := fieldNat (bytes.take 3)
    reorderPoint := clampNat 0 3996 (fieldNat ((bytes.drop 3).take 2))
    hysteresis := clampNat 1 500 (fieldNat ((bytes.drop 5).take 2)) }

/-- The lane record of sixteen bytes written over a lane's present record: none when it is refused, and the record with
its fields clamped and its calibration kept or set otherwise (R157). -/
def laneRecordOf (old : LaneRecord) (bytes : List Byte) : Option LaneRecord :=
  let use := fieldNat (bytes.take 1)
  let slotIndex := use % 128
  let unit := fieldNat ((bytes.drop 1).take 2)
  let spanField := fieldNat ((bytes.drop 14).take 2)
  if h : slotIndex < 8 then
    if 5 ≤ unit ∧ unit ≤ 30000 then
      some
        { enabled := decide (128 ≤ use)
          slot := ⟨slotIndex, h⟩
          unitWeight := unit
          allowance := clampNat 0 200 (fieldNat ((bytes.drop 3).take 1))
          baseTol := clampNat 1 2000 (fieldNat ((bytes.drop 4).take 2))
          motion := clampNat 2 5000 (fieldNat ((bytes.drop 6).take 2))
          band := clampNat 1 500 (fieldNat ((bytes.drop 8).take 2))
          settleCount := clampNat 4 64 (fieldNat ((bytes.drop 10).take 1))
          zeroCode := if spanField = 0 then old.zeroCode else fieldSigned24 ((bytes.drop 11).take 3)
          span := if spanField = 0 then old.span else spanField
          spanCaptured := if spanField = 0 then old.spanCaptured else true }
    else none
  else none

/-- The stations that SET NEIGHBOURS keeps of those given, in order: bytes outside 1 to 120, the node's own station and
repeats are dropped (R155). -/
def filterNeighbours (own : Nat) (given : List Byte) : List Nat :=
  given.foldl
    (fun kept b =>
      if validStation b.toNat && decide (b.toNat ≠ own) && !kept.contains b.toNat then kept ++ [b.toNat] else kept) []

/-- The span of a capture: load × 65,536 × 32 ÷ (sum − 32 × Z), rounded; none when m − Z is 0 or below or the span falls
outside 1 to 65,535 (R160). -/
def capturedSpan (load : Nat) (sum zero : Int) : Option Nat :=
  let den := sum - 32 * zero
  if den ≤ 0 then none
  else
    let s := (roundDiv ((load : Int) * 65536 * 32) den.toNat).toNat
    if 1 ≤ s ∧ s ≤ 65535 then some s else none

/-! ## Validation (R169) -/

/-- The first failing reason of the lanes in turn: 16 + lane for a slot without an article, 32 + lane without a span. -/
def validateLanes (cfg : NodeConfig) : List Lane → Option Nat
  | [] => none
  | l :: rest =>
    let lane := cfg.lanes[l.idx]
    if lane.enabled then
      if cfg.slots[lane.slot].article = 0 then some (16 + l.number)
      else if lane.spanCaptured = false then some (32 + l.number)
      else validateLanes cfg rest
    else validateLanes cfg rest

/-- START validation: none when the configuration passes, else the first failing reason (R169). -/
def validate (cfg : NodeConfig) : Option Nat :=
  if validStation cfg.station = false then some 1
  else if Lane.all.all (fun l => !cfg.lanes[l.idx].enabled) then some 2
  else validateLanes cfg Lane.all

end Sys2Proof.Machine
end

