-- ==== Sys2Proof/Machine/Frames.lean ====
section
/-! DEFINITION. The frames of the aisle link: byte layouts (section 12.1), the check (section 12.1.1), the bits of a
character (R118), what arbitration and readback find at a bit (R125, R126), and the validity of a frame (R122). -/

namespace Sys2Proof.Machine

open Sys2Proof.Config

/-- Kind code of a payload (section 8.1.1). -/
def kindCode : Payload → Nat
  | .shock => 0
  | .claim .. => 1
  | .offer .. => 2
  | .hush .. => 3
  | .alert .. => 4
  | .notice .. => 5
  | .stock .. => 6
  | .presence .. => 7

/-- Payload length of each kind code (R122); none for an unknown kind. -/
def kindLength : Nat → Option Nat
  | 0 => some 0
  | 1 => some 3
  | 2 => some 12
  | 3 => some 4
  | 4 => some 10
  | 5 => some 5
  | 6 => some 6
  | 7 => some 2
  | _ => none

/-- The payload characters of a frame, in order (section 12.1). -/
def payloadBytes : Payload → List Byte
  | .shock => []
  | .claim station tag type => [station, tag, type]
  | .offer tag article count grams tol window =>
    [tag] ++ u24 article.toNat ++ u16 count.toNat ++ u24 grams.toNat ++ u16 tol.toNat ++ [window]
  | .hush article minutes => u24 article.toNat ++ [minutes]
  | .alert article status combined holding rp =>
    u24 article.toNat ++ [status] ++ u16 combined.toNat ++ u16 holding.toNat ++ u16 rp.toNat
  | .notice lane article flags => [lane] ++ u24 article.toNat ++ [flags]
  | .stock article holding flags => u24 article.toNat ++ u16 holding.toNat ++ [flags]
  | .presence restartByte health => [restartByte, health]

/-- The bits of a byte in the order they are sent, most significant first (section 0.5). -/
def byteBits (b : Byte) : List Bool :=
  [b.getLsbD 7, b.getLsbD 6, b.getLsbD 5, b.getLsbD 4, b.getLsbD 3, b.getLsbD 2, b.getLsbD 1, b.getLsbD 0]

/-- One bit into the check register (section 12.1.1). -/
def checkBit (reg : BitVec 16) (bit : Bool) : BitVec 16 :=
  let shifted := reg <<< 1
  if reg.getLsbD 15 = bit then shifted else shifted ^^^ 4129

/-- The check of the characters it covers: the register from all ones, over every bit as sent (section 12.1.1). -/
def checkOf (chars : List Byte) : BitVec 16 := (chars.flatMap byteBits).foldl checkBit 65535

/-- Kind, station, length and payload of a frame: the characters that the check covers. -/
def coveredChars (f : Frame) : List Byte :=
  [BitVec.ofNat 8 (kindCode f.payload), f.station, BitVec.ofNat 8 (payloadBytes f.payload).length]
    ++ payloadBytes f.payload

/-- All characters of a frame, the two check characters last (section 12.1). -/
def frameChars (f : Frame) : List Byte := coveredChars f ++ u16 (checkOf (coveredChars f)).toNat

/-- A run of characters is a complete frame: its length character is 0 to 12 and its characters are 3 + length + 2 (R122). -/
def frameComplete (chars : List Byte) : Bool :=
  match chars with
  | _ :: _ :: len :: _ => decide (len.toNat ≤ 12) && decide (chars.length = len.toNat + 5)
  | _ => false

/-- A complete frame is valid: known kind, the length of its kind, and a check that agrees (R122). -/
def frameValid (chars : List Byte) : Bool :=
  match chars with
  | kind :: _ :: len :: _ =>
    frameComplete chars && decide (kindLength kind.toNat = some len.toNat) &&
      decide (u16 (checkOf (chars.take (chars.length - 2))).toNat = chars.drop (chars.length - 2))
  | _ => false

/-- A run of characters is a beginning of a frame that goes on: it has no length character yet, or one of 0 to 12 that asks for
more of them (R122). -/
def frameGoesOn (chars : List Byte) : Bool :=
  match chars with
  | _ :: _ :: len :: _ => decide (len.toNat ≤ 12) && decide (chars.length < len.toNat + 5)
  | _ => true

/-- The ten bits of a character: start bit, data bits, stop bit; true for recessive (R118). -/
def charBits (char : Byte) : List Bool := [false] ++ byteBits char ++ [true]

/-- The byte of a character whose ten bits have been sampled (R118). -/
def charOf (bits : List Bool) : Byte := ((bits.drop 1).take 8).foldl (fun b bit => b * 2 + (if bit then 1 else 0)) 0

/-- Recessive bit times at the end of a character: its trailing 1 bits and its stop bit (R118, R120). -/
def trailingRecessive (char : Byte) : Nat := ((byteBits char).reverse.takeWhile (· = true)).length + 1

/-- The recessive count when the last of a run of characters is complete (R120). -/
def recessiveAfter (chars : List Byte) : Nat := trailingRecessive (chars.getLastD 0)

/-- The bit time of a frame at a place of one of its characters: true for recessive. Bit time 0 is the start bit, 1 to 8
the data bits, 9 the stop bit (R118). -/
def charBit (char : Byte) (bit : Nat) : Bool :=
  if bit = 0 then false else if bit < 9 then char.getLsbD (8 - bit) else true

/-- The bit that a run of characters sends at a bit time counted from its first start bit; recessive after its end. -/
def bitAt (chars : List Byte) (position : Nat) : Bool :=
  match chars[position / 10]? with
  | some c => charBit c (position % 10)
  | none => true

/-- A read that differs from what is sent at this place is a lost arbitration: a recessive data bit of the first two
characters (R125). -/
def losesArbitrationAt (chars : List Byte) (char bit : Nat) : Bool :=
  decide (char < 2) && decide (1 ≤ bit) && decide (bit ≤ 8) && bitAt chars (10 * char + bit)

/-- A read that differs from what is sent at this place is a readback failure (R125, R126). -/
def failsReadbackAt (chars : List Byte) (char bit : Nat) : Bool :=
  decide (char < chars.length) && decide (bit < 10) && !losesArbitrationAt chars char bit

/-- A recessive bit has been sent by the end of this bit time (R127). -/
def sentRecessiveBy (chars : List Byte) (position : Nat) : Bool :=
  (List.range (position + 1)).any (bitAt chars)

/-- Bit times in one step on an empty queue: 2 at 100 kbit/s, 1 at 50 kbit/s (R118). -/
def bitsPerTick : BitRate → Nat
  | .k50 => 1
  | .k100 => 2

end Sys2Proof.Machine
end

