-- ==== Sys2Proof/Machine/Ops.lean ====
section
/-! DEFINITION. The operations over the state that the meanings share: one place for each read and write of a lane, a
slot, a carrier place, the transmit queue and the port's result. -/

namespace Sys2Proof.Machine

open Sys2Proof.Config

/-- The outcome of a command. -/
abbrev Result := Host.Outcome State Fault Refusal

/-- A command is an event at the timebase's present instant, and it always completes (log 1, log 2): the state after it is
what the rules make of the state. -/
def takeEvent (s : State) (effect : State → State) : Result := .next (effect s)

/-! ## Lanes and slots -/

/-- What the part keeps for a lane. -/
def State.lane (s : State) (l : Lane) : LaneUnit := s.lanes[l.idx]

/-- A lane's unit changed. -/
def State.setLane (s : State) (l : Lane) (u : LaneUnit) : State := { s with lanes := s.lanes.set l.idx.val u l.idx.isLt }

/-- A lane's settler changed. -/
def State.setSettler (s : State) (l : Lane) (t : Settler) : State := s.setLane l { s.lane l with settler := t }

/-- A lane's count unit changed. -/
def State.setCounting (s : State) (l : Lane) (c : CountUnit) : State := s.setLane l { s.lane l with counting := c }

/-- A lane's notice items changed. -/
def State.setNotice (s : State) (l : Lane) (n : LaneNotice) : State := s.setLane l { s.lane l with notice := n }

/-- Every lane's unit changed by one rule. -/
def State.mapLanes (s : State) (f : Lane → LaneUnit → LaneUnit) : State :=
  { s with lanes := #v[f .l1 (s.lane .l1), f .l2 (s.lane .l2), f .l3 (s.lane .l3), f .l4 (s.lane .l4)] }

/-- What the stock view and the alert unit keep for a slot. -/
def State.slot (s : State) (i : Slot) : SlotUnit := s.slots[i]

/-- A slot's unit changed. -/
def State.setSlot (s : State) (i : Slot) (u : SlotUnit) : State := { s with slots := s.slots.set i.val u i.isLt }

/-- The used places of the carrier table, in place order. -/
def State.carrierEntries (s : State) : List CarrierEntry := s.carriers.toList.filterMap id

/-- The configuration in force: the running configuration in RUN, the working copy otherwise (section 1.1, R163). -/
def State.config (s : State) : NodeConfig := if s.startUp.node = .run then s.running else s.working

/-- A lane's record in a configuration. -/
def laneOf (cfg : NodeConfig) (l : Lane) : LaneRecord := cfg.lanes[l.idx]

/-- A slot's record in a configuration. -/
def slotOf (cfg : NodeConfig) (i : Slot) : SlotRecord := cfg.slots[i]

/-- The article of a lane's slot. -/
def articleOfLane (cfg : NodeConfig) (l : Lane) : Nat := (slotOf cfg (laneOf cfg l).slot).article

/-! ## Timers -/

/-- A timer after some time has passed. A timer whose time has run out waits, RUNNING with nothing left, for the command
that is its expiry (log 2). -/
def Timer.pass (d : Nat) : Timer → Timer
  | .stopped => .stopped
  | .running t => .running (t - d)

/-- The longer of a timer's remaining time and a new length; a STOPPED timer starts at the new length (R26, R29). -/
def Timer.atLeast (d : Nat) (t : Timer) : Timer := .running (max t.remaining d)

/-! ## The transmit queue (R139 to R141) -/

/-- The kind code of a request's key. -/
def keyKind : RequestKey → Nat
  | .shock => 0
  | .claim .. => 1
  | .offer .. => 2
  | .alert .. => 4
  | .notice .. => 5
  | .stock .. => 6
  | .presence => 7

/-- The order of keys within one kind: lower slot index, lane, tag, or (offer station, offer tag) (R143). -/
def keyOrder : RequestKey → Nat
  | .shock => 0
  | .claim station tag => station * 256 + tag.toNat
  | .offer tag => tag.toNat
  | .alert slot => slot.val
  | .notice lane => lane.number
  | .stock slot => slot.val
  | .presence => 0

/-- A request is for a CLAIM. -/
def Request.isClaim (r : Request) : Bool := decide (keyKind r.key = 1)

/-- CLAIM requests held, WAITING and IN FLIGHT together (R142). -/
def claimsHeld (q : List Request) : Nat := q.countP Request.isClaim

/-- A request placed again: a WAITING one stands, one IN FLIGHT takes a renewal mark unless it has one (R139, R140). -/
def Request.renew (now : Nat) (r : Request) : Request :=
  if r.inFlight then { r with renewal := some (r.renewal.getD now) } else r

/-- A request list after a placement: coalesced with the request of its key, or added WAITING (R139, R140). -/
def placeIn (now : Nat) (key : RequestKey) (type : Option ClaimType) (q : List Request) : List Request :=
  if q.any (fun r => decide (r.key = key)) then q.map (fun r => if r.key = key then r.renew now else r)
  else q ++ [{ key := key, age := now, inFlight := false, renewal := none, claimType := type }]

/-- A block places a request (R139, R140). -/
def State.place (s : State) (key : RequestKey) : State :=
  { s with queue := { s.queue with requests := placeIn s.now key none s.queue.requests } }

/-- The matcher places a CLAIM with its content; it has tested the claim limit before (R142). -/
def State.placeClaim (s : State) (station : Nat) (tag : Byte) (type : ClaimType) : State :=
  { s with queue := { s.queue with requests := placeIn s.now (.claim station tag) (some type) s.queue.requests } }

/-- Fewer than 8 CLAIM requests are held (R142). -/
def State.claimRoom (s : State) : Bool := decide (claimsHeld s.queue.requests < 8)

/-- A flight whose request is withdrawn becomes a detached frame (R141). -/
def Flight.detachFrom (key : RequestKey) (held : Bool) (f : Flight) : Flight :=
  if f.key = key ∧ held then { f with detached := true } else f

/-- The matcher withdraws a request: it leaves the queue at once, and its frame in flight goes on detached (R141). -/
def State.withdraw (s : State) (key : RequestKey) : State :=
  let held := s.queue.requests.any (fun r => decide (r.key = key) && r.inFlight)
  { s with
    queue := { s.queue with requests := s.queue.requests.filter (fun r => decide (r.key ≠ key)) }
    link := { s.link with flight := s.link.flight.map (Flight.detachFrom key held) } }

/-! ## The port's last result (R152) -/

/-- The last result set. -/
def State.setResult (s : State) (code : ResultCode) (detail : Nat) : State :=
  { s with port := { s.port with result := code, detail := detail } }

/-- The numbers of the result codes (section 12.2). -/
def resultNumber : ResultCode → Nat
  | .ok => 0
  | .busy => 1
  | .refusedState => 2
  | .refusedRange => 3
  | .refusedCheck => 4
  | .captureFailed => 5
  | .storeFailed => 6
  | .incomplete => 7

end Sys2Proof.Machine
end

