-- ==== Sys2Proof/Machine/Flags.lean ====
section
/-! DEFINITION. The conditions and flags that the blocks compute from the state: which lanes are converted (R1), the
quiet condition (R8), slot classes (R79), holding, ready and uncertain (R80 to R82), combined stock (R88), deferral and
the lead test (R100, R101), the indicators (R113, R114, R171). -/

namespace Sys2Proof.Machine

open Sys2Proof.Config

/-! ## Lanes -/

/-- A lane is enabled in a configuration. -/
def laneEnabled (cfg : NodeConfig) (l : Lane) : Bool := (laneOf cfg l).enabled

/-- The lanes enabled in a configuration, in lane order. -/
def enabledLanes (cfg : NodeConfig) : List Lane := Lane.all.filter (laneEnabled cfg)

/-- A lane is named by the capture in progress. -/
def State.capturing (s : State) (l : Lane) : Bool := decide (s.port.capture.map Capture.lane = some l)

/-- The lanes that R1 selects for conversion when supply hold is not in force, in lane order (R1, R9). -/
def State.selectedLanes (s : State) : List Lane :=
  match s.startUp.node with
  | .starting => []
  | .configuring => Lane.all.filter (fun l => laneEnabled s.working l || s.capturing l)
  | .run => enabledLanes s.running

/-- The quiet condition: every enabled lane in STABLE or FAULT (R8). -/
def State.quiet (s : State) : Bool :=
  (enabledLanes s.running).all fun l =>
    decide ((s.lane l).settler.state = some .stable) || decide ((s.lane l).settler.state = some .fault)

/-! ## Slots and articles (R79) -/

/-- An enabled lane feeds the slot. -/
def slotFed (cfg : NodeConfig) (i : Slot) : Bool :=
  Lane.all.any fun l => laneEnabled cfg l && decide ((laneOf cfg l).slot = i)

/-- The article slot of an article: the lowest-numbered slot that has it and is fed; none when it is not carried (R79). -/
def articleSlot (cfg : NodeConfig) (article : Nat) : Option Slot :=
  if article = 0 then none
  else allSlots.find? fun i => decide ((slotOf cfg i).article = article) && slotFed cfg i

/-- The classes of slots (R79). -/
inductive SlotClass where
  | idle | article | shadowed
  deriving DecidableEq, Repr

/-- The class of a slot (R79). -/
def slotClass (cfg : NodeConfig) (i : Slot) : SlotClass :=
  if (slotOf cfg i).article = 0 ∨ slotFed cfg i = false then .idle
  else if articleSlot cfg (slotOf cfg i).article = some i then .article
  else .shadowed

/-- The article slots in ascending order. -/
def articleSlots (cfg : NodeConfig) : List Slot := allSlots.filter fun i => decide (slotClass cfg i = .article)

/-- The lanes of a slot's article: the enabled lanes whose slot has that article (R79). -/
def lanesOfSlot (cfg : NodeConfig) (i : Slot) : List Lane :=
  (enabledLanes cfg).filter fun l => decide (articleOfLane cfg l = (slotOf cfg i).article)

/-- Own holding Hn, re-derived (R80). -/
def State.holdingOf (s : State) (i : Slot) : Nat :=
  ((lanesOfSlot s.running i).map fun l => (s.lane l).counting.count).sum

/-- Readiness, re-derived (R81). -/
def State.readyOf (s : State) (i : Slot) : Bool :=
  (lanesOfSlot s.running i).all fun l => (s.lane l).settler.known

/-- The uncertain flag, re-derived (R82). -/
def State.uncertainOf (s : State) (i : Slot) : Bool :=
  (lanesOfSlot s.running i).any fun l =>
    decide ((s.lane l).settler.state = some .fault) || (s.lane l).counting.audit

/-- The carrier entries of a slot's article (R88). -/
def State.entriesOf (s : State) (i : Slot) : List CarrierEntry := s.carrierEntries.filter fun e => decide (e.slot = i)

/-- Combined stock C of an article slot (R88). -/
def State.combined (s : State) (i : Slot) : Nat := (s.slot i).holding + ((s.entriesOf i).map CarrierEntry.holding).sum

/-! ## Deferral and lead (R100, R101) -/

/-- Deferral holds for a slot: it is not ready, or one of the matcher's lists holds an entry of its article (R100). -/
def State.deferred (s : State) (i : Slot) : Bool :=
  let article := (slotOf s.running i).article
  !(s.slot i).ready || s.matcher.pendingOut.any (fun e => decide (e.article = article)) ||
    s.matcher.heard.any (fun e => decide (e.article = article))

/-- A key (holding, station) is lower than another: on holding first, then on station (R101). -/
def keyLower (h1 st1 h2 st2 : Nat) : Bool := decide (h1 < h2) || (decide (h1 = h2) && decide (st1 < st2))

/-- The lead test of a slot (R101). -/
def State.leads (s : State) (i : Slot) : Bool :=
  !(s.slot i).uncertain &&
    (s.entriesOf i).all fun e =>
      decide (e.band = .stale) || e.uncertain ||
        keyLower (s.slot i).holding s.running.station e.holding e.station

/-! ## Notices and indicators -/

/-- A lane has a notice flag set (R111). -/
def LaneNotice.any (n : LaneNotice) : Bool := n.audit || n.foreign || n.fault

/-- The three notice flags as a NOTICE frame codes them (section 12.1). -/
def LaneNotice.flags (n : LaneNotice) : Nat := flagBit 0 n.audit + flagBit 1 n.foreign + flagBit 2 n.fault

/-- The alert state of the article slot of a lane's article; NORMAL when there is none. -/
def State.alertOfLane (s : State) (l : Lane) : AlertState :=
  match articleSlot s.running (articleOfLane s.running l) with
  | some i => (s.slot i).alert
  | none => .normal

/-- The indicator drive of a lane, re-derived (R113). -/
def State.indicatorOf (s : State) (l : Lane) : IndicatorDrive :=
  let n := (s.lane l).notice
  if s.startUp.node ≠ .run ∨ laneEnabled s.running l = false then .off
  else if n.audit || n.fault then .steady
  else if n.foreign then .fastBlink
  else if s.alertOfLane l = .raised ∨ s.alertOfLane l = .following then .slowBlink
  else .off

/-- What the status indicator shows (R171). -/
inductive StatusDrive where
  | off | fastBlink | slowBlink | steady | doubleFlash
  deriving DecidableEq, Repr

/-- The status indicator's drive (R171). RUN with link OFF does not arise. -/
def State.statusDrive (s : State) : StatusDrive :=
  match s.startUp.node with
  | .starting => .off
  | .configuring => .fastBlink
  | .run =>
    match s.link.state with
    | .joining | .quarantine => .slowBlink
    | .active => .steady
    | .silenced => .doubleFlash
    | .off => .off

/-- An indicator output in a blink of one period: on in the first half (R114). -/
def blinkOn (period clock : Nat) : Bool := decide (clock % period < period / 2)

/-- The output of a lane indicator pin: true for on. All indicators are off while the clock does not run (R114, R164). -/
def State.laneIndicatorOn (s : State) (l : Lane) : Bool :=
  match s.startUp.indicatorClock with
  | none => false
  | some clock =>
    match (s.lane l).notice.indicator with
    | .off => false
    | .steady => true
    | .fastBlink => blinkOn (ms 250) clock
    | .slowBlink => blinkOn (ms 1000) clock

/-- The output of the status indicator pin: true for on (R114, R171). -/
def State.statusIndicatorOn (s : State) : Bool :=
  match s.startUp.indicatorClock with
  | none => false
  | some clock =>
    match s.statusDrive with
    | .off => false
    | .steady => true
    | .fastBlink => blinkOn (ms 250) clock
    | .slowBlink => blinkOn (ms 1000) clock
    | .doubleFlash =>
      let t := clock % ms 1000
      decide (t < ms 125) || (decide (ms 250 ≤ t) && decide (t < ms 375))

/-! ## The port's output pin -/

/-- The eighth rising edge of a byte has been taken, and the falling edge at which the next outgoing byte begins is still to
come (R149). -/
def Port.byteDue (p : Port) : Bool := p.fallDue && decide (p.bitCount = 0)

/-- The falling edges since the outgoing byte began: one for each rising edge, but for one that is still to come (R149). -/
def Port.falls (p : Port) : Nat := if p.byteDue then 7 else if p.fallDue then p.bitCount - 1 else p.bitCount

/-- CPDO after some falling edges of the byte being shifted out: its most significant bit as the byte begins, and the next bit
after each falling edge (R149). -/
def Port.shiftedOut (p : Port) (falls : Nat) : Bool := p.outgoing.getLsbD (7 - falls)

/-- CPDO: released while CPSEL is high or the part is STARTING; else the bit of the outgoing byte after the falling edges so
far: after a whole byte its last bit, until the falling edge at which the next byte begins (R147, R149). -/
def State.cpdo (s : State) : Option Bool :=
  if s.pins.cpselLow = true ∧ s.startUp.node ≠ .starting then
    some (s.port.shiftedOut s.port.falls)
  else none

end Sys2Proof.Machine
end

