-- ==== Sys2Proof/Machine/Alerts.lean ====
section
/-! DEFINITION. The alert unit (chapter 6): the evaluation of a slot, the lane notices, the indicators, and the commands
that are the alert unit's timers. -/

namespace Sys2Proof.Machine

open Sys2Proof.Config

/-! ## Indicators (R113) -/

/-- The indicator drives of some lanes, re-derived (R113). -/
def State.rederiveIndicators (s : State) (ls : List Lane) : State :=
  s.mapLanes fun l u => if l ∈ ls then { u with notice := { u.notice with indicator := s.indicatorOf l } } else u

/-! ## Lane notices (R110, R111) -/

/-- The notice items of a lane after one of its flags has changed: the timer starts when it is STOPPED and a flag is set,
and stops when none is (R111). -/
def LaneNotice.retime (n : LaneNotice) : LaneNotice :=
  { n with timer := if n.any then (if n.timer.isRunning then n.timer else .running (sec 60)) else .stopped }

/-- A notice flag of a lane changes: the timer follows, a NOTICE is requested, the indicator is re-derived (R110, R111,
R113). -/
def State.changeNotice (s : State) (l : Lane) (flags : LaneNotice → LaneNotice) : State :=
  ((s.setNotice l (flags (s.lane l).notice).retime).place (.notice l)).rederiveIndicators [l]

/-! ## Alert states (R97 to R99) -/

/-- A slot that becomes NORMAL: its takeover, repeat and mute timers STOPPED (R98). -/
def SlotUnit.toNormal (u : SlotUnit) : SlotUnit :=
  { u with alert := .normal, takeoverTimer := .stopped, repeatTimer := .stopped, muteTimer := .stopped }

/-- A slot that becomes RAISED: takeover STOPPED, repeat at 60 s (R99, R102). -/
def SlotUnit.toRaised (u : SlotUnit) : SlotUnit :=
  { u with alert := .raised, takeoverTimer := .stopped, repeatTimer := .running (sec 60) }

/-- A slot that becomes FOLLOWING: repeat STOPPED, takeover at 150 s (R99, R104). -/
def SlotUnit.toFollowing (u : SlotUnit) : SlotUnit :=
  { u with alert := .following, takeoverTimer := .running (sec 150), repeatTimer := .stopped }

/-- A slot that becomes MUTED for some time (R106). -/
def SlotUnit.toMuted (u : SlotUnit) (time : Nat) : SlotUnit :=
  { u with alert := .muted, muteTimer := .running time, takeoverTimer := .stopped, repeatTimer := .stopped }

/-- The last-sent status is RAISED or MUTED (R98). -/
def SlotUnit.toldAisle (u : SlotUnit) : Bool := decide (u.lastSent ≠ .none)

/-- The short-side step: the slot after it, and whether an ALERT request is placed (R99). -/
def shortSide (deferred leads : Bool) (u : SlotUnit) : SlotUnit × Bool :=
  match u.alert with
  | .muted | .raised => (u, false)
  | .following => if leads then (u.toRaised, true) else (u, false)
  | .normal | .deferred =>
    if deferred then ({ u with alert := .deferred }, false)
    else if leads then (u.toRaised, true)
    else (u.toFollowing, false)

/-- The hysteresis step and, on the short side, the short-side step: the slot after it, and whether an ALERT request is
placed (R98, R99). -/
def evaluation (sr : SlotRecord) (combined : Nat) (deferred leads : Bool) (u : SlotUnit) : SlotUnit × Bool :=
  if sr.reorderPoint + sr.hysteresis ≤ combined then (u.toNormal, u.toldAisle)
  else if u.alert = .normal ∧ sr.reorderPoint < combined then (u, false)
  else shortSide deferred leads u

/-- A slot's alert items change: an ALERT request is placed if one is due, and a change of the alert state re-derives
the indicators of the lanes of its article (R113). -/
def State.changeAlert (s : State) (i : Slot) (u : SlotUnit) (request : Bool) : State :=
  let s1 := s.setSlot i u
  let s2 := if request then s1.place (.alert i) else s1
  if u.alert = (s.slot i).alert then s2 else s2.rederiveIndicators (lanesOfSlot s.running i)

/-- One evaluation of an article slot; none is made before the settling-in period has ended (R97). -/
def State.evaluate (s : State) (i : Slot) : State :=
  if s.settlingIn = .ended then
    let out := evaluation (slotOf s.running i) (s.combined i) (s.deferred i) (s.leads i) (s.slot i)
    s.changeAlert i out.1 out.2
  else s

/-- The slots whose evaluation an event owes are evaluated once each, in slot order (R89, R137). -/
def State.evaluateAll (s : State) (owed : List Slot) : State :=
  (allSlots.filter fun i => owed.contains i).foldl State.evaluate s

/-- The article slot of an article, as the list of slots whose evaluation a trigger for that article owes (R97). -/
def State.slotsFor (s : State) (article : Nat) : List Slot := (articleSlot s.running article).toList

/-- A MUTED slot's mute ends: NORMAL, with an ALERT request when the last-sent status is RAISED or MUTED (R98, R107). -/
def State.endMute (s : State) (i : Slot) : State :=
  s.changeAlert i (s.slot i).toNormal (s.slot i).toldAisle

/-! ## The commands -/

/-- TAKEOVER_TIMER_EXPIRY: the slot becomes RAISED whatever its key, its uncertain flag or its deferral; a timer that a
reception has restarted is not at its expiry (R102). -/
def execTakeoverTimerExpiry (i : Slot) (s : State) : Result :=
  takeEvent s fun s =>
    if (s.slot i).takeoverTimer.due then s.changeAlert i (s.slot i).toRaised true else s

/-- REPEAT_TIMER_EXPIRY: an ALERT request, and the timer at 60 s again; a timer that a transmission end has restarted is not
at its expiry (R103). -/
def execRepeatTimerExpiry (i : Slot) (s : State) : Result :=
  takeEvent s fun s =>
    if (s.slot i).repeatTimer.due then
      (s.setSlot i { s.slot i with repeatTimer := .running (sec 60) }).place (.alert i)
    else s

/-- MUTE_TIMER_EXPIRY: the slot becomes NORMAL, may place an ALERT request, and is evaluated; a timer that a HUSH has started
again is not at its expiry (R107). -/
def execMuteTimerExpiry (i : Slot) (s : State) : Result :=
  takeEvent s fun s =>
    if (s.slot i).muteTimer.due then (s.endMute i).evaluate i else s

/-- NOTICE_TIMER_EXPIRY: a NOTICE request, and the timer at 60 s again; a timer that a transmission end has restarted is not
at its expiry (R111). -/
def execNoticeTimerExpiry (l : Lane) (s : State) : Result :=
  takeEvent s fun s =>
    if (s.lane l).notice.timer.due then
      (s.setNotice l { (s.lane l).notice with timer := .running (sec 60) }).place (.notice l)
    else s

end Sys2Proof.Machine
end

