-- ==== Sys2Proof/Machine/StockView.lean ====
section
/-! DEFINITION. The stock view (chapter 5): the count unit's report, the uncertain flag at FAULT, the carrier table, and
the commands that are the stock view's own. -/

namespace Sys2Proof.Machine

open Sys2Proof.Config

/-- A STOCK request for a slot, if one is due (R91). -/
def State.placeStock (s : State) (i : Slot) (due : Bool) : State := if due then s.place (.stock i) else s

/-- The slot after a report: Hn, ready and uncertain re-derived in one step; becoming ready starts the refresh timer
(R51, R89, R92). -/
def SlotUnit.reported (u : SlotUnit) (holding : Nat) (ready uncertain : Bool) : SlotUnit :=
  { u with
    holding := holding
    ready := ready
    uncertain := uncertain
    refreshTimer := if ready && !u.ready then .running (sec 120) else u.refreshTimer }

/-- Hn, the ready flag or the uncertain flag differ (R89). -/
def stockChanged (u v : SlotUnit) : Bool :=
  decide (u.holding ≠ v.holding) || decide (u.ready ≠ v.ready) || decide (u.uncertain ≠ v.uncertain)

/-- The count unit's report reaches an article slot: the three items re-derived, and a STOCK request placed if one is due
(R51, R89, R91). -/
def State.reportSlot (s : State) (i : Slot) : State :=
  let u := s.slot i
  let v := u.reported (s.holdingOf i) (s.readyOf i) (s.uncertainOf i)
  (s.setSlot i v).placeStock i (v.ready && stockChanged u v)

/-- The count unit's report for a lane: the state, and the slot whose evaluation it owes. DEDUCED (log 30): the slot is evaluated
at every report, also at one that changes none of the three items; R89 ties the evaluation to a change in its first sentence and
makes it without condition in its sentence on the report (R51, R89). -/
def State.reportLane (s : State) (l : Lane) : State × List Slot :=
  match articleSlot s.running (articleOfLane s.running l) with
  | some i => (s.reportSlot i, [i])
  | none => (s, [])

/-- A lane enters or leaves FAULT: the uncertain flag of its article slot is re-derived, a change places STOCK for a ready
slot and makes the slot evaluated (R34, R82, R89, R91). -/
def State.rederiveUncertain (s : State) (l : Lane) : State :=
  match articleSlot s.running (articleOfLane s.running l) with
  | some i =>
    let u := s.slot i
    if u.uncertain = s.uncertainOf i then s
    else ((s.setSlot i { u with uncertain := s.uncertainOf i }).placeStock i u.ready).evaluate i
  | none => s

/-! ## The carrier table (R83, R84, R86) -/

/-- A carrier place changed. -/
def State.setCarrier (s : State) (place : Fin 32) (e : Option CarrierEntry) : State :=
  { s with carriers := s.carriers.set place.val e place.isLt }

/-- The 32 places in order. -/
def allPlaces : List (Fin 32) := List.finRange 32

/-- The entries of one station changed by a rule that may empty their places. -/
def State.mapStation (s : State) (station : Nat) (f : CarrierEntry → Option CarrierEntry) : State :=
  { s with carriers := s.carriers.map fun p => p.bind fun e => if e.station = station then f e else some e }

/-- The slots of the entries of one station of which something holds. -/
def State.slotsWhere (s : State) (station : Nat) (holds : CarrierEntry → Bool) : List Slot :=
  (s.carrierEntries.filter fun e => decide (e.station = station) && holds e).map CarrierEntry.slot

/-- The refresh of a reception: every entry of the sender at age 0 and FRESH; the slots of those that were STALE are owed
an evaluation (R83). -/
def State.refreshStation (s : State) (station : Nat) : State × List Slot :=
  (s.mapStation station fun e => some { e with age := 0, band := .fresh },
   s.slotsWhere station fun e => decide (e.band = .stale))

/-- The place of the entry of a station and slot. -/
def State.placeOf (s : State) (station : Nat) (i : Slot) : Option (Fin 32) :=
  allPlaces.find? fun p =>
    match s.carriers[p] with
    | some e => decide (e.station = station) && decide (e.slot = i)
    | none => false

/-- The lowest-numbered empty place. -/
def State.emptyPlace (s : State) : Option (Fin 32) := allPlaces.find? fun p => s.carriers[p].isNone

/-- The better of two places to evict: a STALE entry of greater age; the earlier place among equal ages (R86). -/
def State.olderStale (s : State) (best : Option (Fin 32)) (p : Fin 32) : Option (Fin 32) :=
  match s.carriers[p] with
  | none => best
  | some e =>
    if e.band = .fresh then best
    else
      match best with
      | none => some p
      | some b =>
        match s.carriers[b] with
        | some e' => if e'.age < e.age then some p else some b
        | none => some p

/-- The place of the STALE entry with the greatest age, the lowest-numbered among equal ages (R86). -/
def State.stalePlace (s : State) : Option (Fin 32) := allPlaces.foldl s.olderStale none

/-- A STOCK frame placed in the carrier table: the state, and the slots whose evaluation it owes (R86). -/
def State.placeHolding (s : State) (station : Nat) (i : Slot) (holding : Nat) (uncertain : Bool) : State × List Slot :=
  let entry : CarrierEntry :=
    { station := station, slot := i, holding := holding, uncertain := uncertain, age := 0, band := .fresh }
  match s.placeOf station i with
  | some p =>
    match s.carriers[p] with
    | some e =>
      (s.setCarrier p (some { e with holding := holding, uncertain := uncertain }),
       if e.holding = holding ∧ e.uncertain = uncertain then [] else [i])
    | none => (s, [])
  | none =>
    match s.emptyPlace with
    | some p => (s.setCarrier p (some entry), [i])
    | none =>
      match s.stalePlace with
      | some p => (s.setCarrier p (some entry), i :: (s.carriers[p].map CarrierEntry.slot).toList)
      | none => (s, [])

/-- A STOCK request for every ready article slot, in slot order (R87). -/
def State.placeReadyStocks (s : State) : State :=
  (articleSlots s.running).foldl (fun s i => s.placeStock i (s.slot i).ready) s

/-! ## The commands -/

/-- A FRESH entry that has reached 35 s of age: its turn to STALE is due (R84). -/
def CarrierEntry.dueStale (e : CarrierEntry) : Bool := decide (e.band = .fresh) && decide (sec 35 ≤ e.age)

/-- An entry that has reached 300 s of age: its removal is due (R84). -/
def CarrierEntry.dueRemoval (e : CarrierEntry) : Bool := decide (sec 300 ≤ e.age)

/-- CARRIER_ENTRY_STALE: the entries of a station that have reached 35 s of age turn STALE, and each article slot concerned is
evaluated once; entries that a reception has refreshed stay (R84). -/
def execCarrierEntryStale (station : Nat) (s : State) : Result :=
  takeEvent s fun s =>
    (s.mapStation station fun e => some (if e.dueStale then { e with band := .stale } else e)).evaluateAll
      (s.slotsWhere station CarrierEntry.dueStale)

/-- CARRIER_ENTRY_REMOVED: the entries of a station that have reached 300 s of age are removed, of either band (log 21); each
article slot concerned is evaluated once (R84). -/
def execCarrierEntryRemoved (station : Nat) (s : State) : Result :=
  takeEvent s fun s =>
    (s.mapStation station fun e => if e.dueRemoval then none else some e).evaluateAll
      (s.slotsWhere station CarrierEntry.dueRemoval)

/-- SETTLING_IN_EXPIRY: the timer becomes ENDED and every article slot is evaluated, each once (R90). -/
def execSettlingInExpiry (s : State) : Result :=
  takeEvent s fun s =>
    match s.settlingIn with
    | .running 0 => State.evaluateAll { s with settlingIn := .ended } (articleSlots s.running)
    | _ => s

/-- REFRESH_TIMER_EXPIRY: a STOCK request for a ready slot, and the timer at 120 s again; a timer that a transmission end has
restarted is not at its expiry (R91, R92). -/
def execRefreshTimerExpiry (i : Slot) (s : State) : Result :=
  takeEvent s fun s =>
    if (s.slot i).refreshTimer.due then
      (s.setSlot i { s.slot i with refreshTimer := .running (sec 120) }).placeStock i (s.slot i).ready
    else s

end Sys2Proof.Machine
end

