-- ==== Sys2Proof/Machine/Matching.lean ====
section
/-! DEFINITION. The movement matcher (chapter 4): pending-out entries, heard offers, rises, foreign items, and the
commands that are the matcher's timers. -/

namespace Sys2Proof.Machine

open Sys2Proof.Config

/-! ## Tallies (R52) -/

/-- A lane's tallies changed. -/
def State.setTallies (s : State) (l : Lane) (f : Tallies → Tallies) : State :=
  s.setCounting l { (s.lane l).counting with tallies := f (s.lane l).counting.tallies }

/-- PICK of a pending-out entry (R52). -/
def Tallies.addPicks (n : Nat) (t : Tallies) : Tallies := { t with picks := tallyUp t.picks n }

/-- RELOCATED-OUT of a pending-out entry (R52). -/
def Tallies.addRelocatedOut (n : Nat) (t : Tallies) : Tallies := { t with relocatedOut := tallyUp t.relocatedOut n }

/-- MATCHED-IN of a rise (R52). -/
def Tallies.addMatchedIn (n : Nat) (t : Tallies) : Tallies := { t with matchedIn := tallyUp t.matchedIn n }

/-- RESTOCK-IN of a rise (R52). -/
def Tallies.addRestockIn (n : Nat) (t : Tallies) : Tallies := { t with restockIn := tallyUp t.restockIn n }

/-- A MATCHED-IN rise reclassified RESTOCK-IN; a subtraction below 0 leaves 0 (R52, R71). -/
def Tallies.reclassify (n : Nat) (t : Tallies) : Tallies :=
  { t with matchedIn := t.matchedIn - n, restockIn := tallyUp t.restockIn n }

/-- A foreign match (R47, R52). -/
def Tallies.addForeignSeen (t : Tallies) : Tallies := { t with foreignSeen := tallyUp t.foreignSeen 1 }

/-! ## The pending-out list (R56 to R62) -/

/-- The classifications of a pending-out entry that leaves the list (R62). -/
inductive OutClass where
  | pick | relocatedOut
  deriving DecidableEq, Repr

/-- The pending-out list set. -/
def State.setPendingOut (s : State) (es : List PendingOut) : State :=
  { s with matcher := { s.matcher with pendingOut := es } }

/-- The heard-offer list set. -/
def State.setHeard (s : State) (es : List HeardOffer) : State := { s with matcher := { s.matcher with heard := es } }

/-- The pending-out entry of a tag. -/
def State.pendingOf (s : State) (tag : Byte) : Option PendingOut :=
  s.matcher.pendingOut.find? fun e => decide (e.tag = tag)

/-- A pending-out entry leaves the list: its units reach a tally of its lane, and its OFFER is withdrawn unless it has
been sent (R62). The evaluation its article's slot is owed is the caller's (R76). -/
def State.removePending (s : State) (e : PendingOut) (cls : OutClass) : State :=
  let s1 := s.setTallies e.lane (match cls with
    | .pick => Tallies.addPicks e.count
    | .relocatedOut => Tallies.addRelocatedOut e.count)
  let s2 := s1.setPendingOut (s1.matcher.pendingOut.filter fun x => decide (x.tag ≠ e.tag))
  if e.status = .sent then s2 else s2.withdraw (.offer e.tag)

/-- The first tag from a start that no entry carries, tried for some steps; 255 is followed by 0 (R58). -/
def freeTag (used : List Byte) : Nat → Byte → Byte
  | 0, t => t
  | fuel + 1, t => if used.contains t then freeTag used fuel (t + 1) else t

/-- The movement record of a decrease or a rise (R50). -/
structure Movement where
  lane : Lane
  article : Nat
  /-- the cases moved, |Δn| -/
  cases : Nat
  grams : Nat
  tol : Nat
  deriving DecidableEq, Repr

/-- The movement record of a lane whose count changed by some cases (R50). -/
def movementOf (cfg : NodeConfig) (l : Lane) (cases : Nat) : Movement :=
  { lane := l, article := articleOfLane cfg l, cases := cases, grams := cases * (laneOf cfg l).unitWeight,
    tol := min 65535 (tolerance (laneOf cfg l) cases) }

/-- Room is made for a new pending-out entry: of eight, the oldest leaves as PICK. The state, and the slots whose
evaluation the eviction owes (R57, R76). -/
def State.evictPending (s : State) : State × List Slot :=
  match s.matcher.pendingOut with
  | e :: rest => if 8 ≤ (e :: rest).length then (s.removePending e .pick, s.slotsFor e.article) else (s, [])
  | [] => (s, [])

/-- A decrease makes a pending-out entry with a new tag and places its OFFER (R56, R58). -/
def State.createPending (s : State) (m : Movement) : State :=
  let tag := freeTag (s.matcher.pendingOut.map PendingOut.tag) 9 s.matcher.tagCounter
  let entry : PendingOut :=
    { tag := tag, article := m.article, lane := m.lane, count := m.cases, grams := m.grams, tol := m.tol,
      remaining := sec s.running.matchWindow, status := .queued }
  State.place { s with matcher := { s.matcher with
      pendingOut := s.matcher.pendingOut ++ [entry], tagCounter := tag + 1 } } (.offer tag)

/-! ## The heard-offer list (R63 to R68) -/

/-- The heard-offer entry of a station and tag. -/
def State.heardOf (s : State) (station : Nat) (tag : Byte) : Option HeardOffer :=
  s.matcher.heard.find? fun e => decide (e.station = station) && decide (e.tag = tag)

/-- The heard-offer list without the entry of a station and tag. -/
def State.forgetHeard (s : State) (station : Nat) (tag : Byte) : State :=
  s.setHeard (s.matcher.heard.filter fun e => !(decide (e.station = station) && decide (e.tag = tag)))

/-- A provisional MATCHED-IN rise of a claim lane is reclassified; a FOREIGN claim has no rise (R71). -/
def State.reclassify (s : State) (e : HeardOffer) : State :=
  match e.claimType, e.claimLane with
  | some .relocation, some l => s.setTallies l (Tallies.reclassify e.count)
  | _, _ => s

/-- A heard-offer entry leaves by expiry, eviction, replacement, purge or another station's claim: a QUEUED claim is
withdrawn and its rise reclassified (R64, R66, R68). The evaluation its article's slot is owed is the caller's (R76). -/
def State.dropHeard (s : State) (e : HeardOffer) : State :=
  let s1 := s.forgetHeard e.station e.tag
  if e.claimStatus = .queued then (s1.withdraw (.claim e.station e.tag)).reclassify e else s1

/-- A heard-offer entry is claimed (R70, R73). -/
def State.claimHeard (s : State) (e : HeardOffer) (type : ClaimType) (l : Option Lane) : State :=
  let s1 := s.placeClaim e.station e.tag type
  s1.setHeard (s1.matcher.heard.map fun x =>
    if x.station = e.station ∧ x.tag = e.tag then
      { x with claimStatus := .queued, claimType := some type, claimLane := l }
    else x)

/-- An own entry that has been or is being sent is taken back from the peers: a cancelling CLAIM, if there is room for one
(R69, R73). -/
def State.cancelOffer (s : State) (e : PendingOut) (type : ClaimType) : State :=
  if e.status ≠ .queued ∧ s.claimRoom = true then s.placeClaim s.running.station e.tag type else s

/-! ## A rise (R69, R70) -/

/-- A rise of some cases on a lane is matched against the own entries, then against the heard offers, and classified
(R69, R70). -/
def State.matchRise (s : State) (m : Movement) : State :=
  match s.matcher.pendingOut.find? fun e => decide (e.article = m.article) && decide (e.count = m.cases) with
  | some e =>
    ((s.removePending e .relocatedOut).setTallies m.lane (Tallies.addMatchedIn m.cases)).cancelOffer e .relocation
  | none =>
    match s.matcher.heard.find? fun e =>
        decide (e.article = m.article) && decide (e.count = m.cases) && decide (e.claimStatus = .none) with
    | some e =>
      if s.claimRoom then
        (s.claimHeard e .relocation (some m.lane)).setTallies m.lane (Tallies.addMatchedIn m.cases)
      else s.setTallies m.lane (Tallies.addRestockIn m.cases)
    | none => s.setTallies m.lane (Tallies.addRestockIn m.cases)

/-- A movement is handed to the matcher: the state, and the slots whose evaluation the matcher's work owes beside that of
the moving lane's own slot (R56, R57, R69, R70, R76). DEDUCED (log 11): the slot of an evicted entry of another article is owed
one too. -/
def State.handMovement (s : State) (l : Lane) (delta : Int) : State × List Slot :=
  let m := movementOf s.running l delta.natAbs
  if delta < 0 then
    let evicted := s.evictPending
    (evicted.1.createPending m, evicted.2)
  else (s.matchRise m, [])

/-! ## Foreign items (R72 to R74) -/

/-- What the foreign search finds (R72). -/
inductive ForeignMatch where
  | own (e : PendingOut)
  | heard (e : HeardOffer)
  deriving DecidableEq, Repr

/-- An offer's weight fits a rise of the filtered weight: |ΔF − grams| is at most tol + T0 (R72). -/
def weightFits (delta : Int) (grams tol baseTol : Nat) : Bool :=
  decide ((delta - (grams : Int)).natAbs ≤ tol + baseTol)

/-- The foreign search: own entries first, then unclaimed heard offers, oldest first, of another article (R72). -/
def State.foreignSearch (s : State) (l : Lane) (delta : Int) : Option ForeignMatch :=
  let article := articleOfLane s.running l
  let baseTol := (laneOf s.running l).baseTol
  match s.matcher.pendingOut.find? fun e =>
      decide (e.article ≠ article) && weightFits delta e.grams e.tol baseTol with
  | some e => some (.own e)
  | none =>
    (s.matcher.heard.find? fun e =>
      decide (e.claimStatus = .none) && decide (e.article ≠ article) && weightFits delta e.grams e.tol baseTol).map
      ForeignMatch.heard

/-- The foreign record that a match sets (R73). -/
def ForeignMatch.record (station : Nat) (delta : Int) : ForeignMatch → ForeignRecord
  | .own e => { article := e.article, grams := delta, origin := station, tag := e.tag, tol := e.tol }
  | .heard e => { article := e.article, grams := delta, origin := e.station, tag := e.tag, tol := e.tol }

/-- The matched offer is dealt with: an own entry leaves as RELOCATED-OUT, a heard offer is claimed if there is room. The
state, and the slots whose evaluation it owes (R73, R76). -/
def State.dealWithMatch (s : State) : ForeignMatch → State × List Slot
  | .own e => ((s.removePending e .relocatedOut).cancelOffer e .foreign, s.slotsFor e.article)
  | .heard e => (if s.claimRoom then s.claimHeard e .foreign none else s, [])

/-- A lane's foreign record set or cleared, with its FOREIGN notice flag (R73, R74, R110). -/
def State.setForeign (s : State) (l : Lane) (r : Option ForeignRecord) : State :=
  (s.setLane l { s.lane l with foreign := r }).changeNotice l fun n => { n with foreign := r.isSome }

/-- The foreign removal test: |ΔF + Gf| is at most the record's tol + T0 (R74). -/
def removalFits (r : ForeignRecord) (delta : Int) (baseTol : Nat) : Bool :=
  decide ((delta + r.grams).natAbs ≤ r.tol + baseTol)

/-! ## The commands -/

/-- PENDING_OUT_EXPIRY: the entry of the tag, its match window ended, is removed and classified PICK (R60). -/
def execPendingOutExpiry (tag : Byte) (s : State) : Result :=
  takeEvent s fun s =>
    match s.pendingOf tag with
    | some e => if e.remaining = 0 then (s.removePending e .pick).evaluateAll (s.slotsFor e.article) else s
    | none => s

/-- HEARD_OFFER_EXPIRY: the entry, its window ended, is removed, a queued claim withdrawn and its rise reclassified (R64). -/
def execHeardOfferExpiry (station : Nat) (tag : Byte) (s : State) : Result :=
  takeEvent s fun s =>
    match s.heardOf station tag with
    | some e => if e.remaining = 0 then (s.dropHeard e).evaluateAll (s.slotsFor e.article) else s
    | none => s

end Sys2Proof.Machine
end

