-- ==== Sys2Proof/Machine/Scan.lean ====
section
/-! DEFINITION. The scan mode and the quiet timer of the front end (R2, R7, R8), and the settlers' part of a hold
(R25 to R30). -/

namespace Sys2Proof.Machine

open Sys2Proof.Config

/-! ## Scan mode (R2, R7, R8) -/

/-- The round period of a scan mode (R2). -/
def period : ScanMode → Nat
  | .fast => ms 20
  | .slow => ms 200

/-- The front end in a scan mode: a change recalculates the next round start from the start of the most recent round, at
once when that instant has passed (R2). -/
def FrontEnd.toMode (m : ScanMode) (f : FrontEnd) : FrontEnd :=
  if f.mode = m then f else { f with mode := m, roundTimer := .running (period m - f.sinceRound) }

/-- An event of R7: FAST mode, and the quiet timer STOPPED (R7). -/
def State.enterFast (s : State) : State :=
  { s with frontEnd := { s.frontEnd.toMode .fast with quietTimer := .stopped } }

/-- The test of the quiet condition at a change of a lane's state; the quiet timer stays STOPPED in CONFIGURING (R7, R8). -/
def State.testQuiet (s : State) : State :=
  if s.startUp.node = .run then
    { s with frontEnd := { s.frontEnd with quietTimer :=
        if s.quiet then (if s.frontEnd.quietTimer.isRunning then s.frontEnd.quietTimer else .running (sec 120))
        else .stopped } }
  else s

/-- The settler states of the four lanes. -/
def State.laneStates (s : State) : List (Option LaneState) := Lane.all.map fun l => (s.lane l).settler.state

/-- A lane that was STABLE or in FAULT before an event is in another state after it (R7). -/
def State.leftRest (before after : State) : Bool :=
  Lane.all.any fun l =>
    (decide ((before.lane l).settler.state = some .stable) || decide ((before.lane l).settler.state = some .fault)) &&
      decide ((after.lane l).settler.state ≠ (before.lane l).settler.state)

/-- The front end's part of an event that may have changed lane states: FAST when a lane left STABLE or FAULT, and the
quiet condition tested when any lane state changed (R7, R8, R35). -/
def State.settleFrontEnd (s before : State) : State :=
  if s.laneStates = before.laneStates then s
  else if before.leftRest s then s.enterFast.testQuiet
  else s.testQuiet

/-! ## Holds (R25 to R30) -/

/-- Entry into HELD from MOVING, SETTLING or STABLE (R20, R25). -/
def Settler.enterHeld (t : Settler) : Settler :=
  { t with state := some .held, window := [], settleCounter := 0, motionRun := 0 }

/-- A timed hold arrives at a lane (R25, R26). -/
def Settler.timedHold (d : Nat) (t : Settler) : Settler :=
  match t.state with
  | none | some .fault => t
  | some .held => { t with holdTimer := t.holdTimer.atLeast d }
  | some _ => { t.enterHeld with holdTimer := .running d }

/-- Supply hold has begun (R28). -/
def Settler.supplyHeld (t : Settler) : Settler :=
  match t.state with
  | none | some .fault => t
  | some .held => { t with supplyWait := true }
  | some _ => { t.enterHeld with holdTimer := .stopped, supplyWait := true }

/-- Supply hold has ended (R29). -/
def Settler.supplyReleased (t : Settler) : Settler :=
  if t.supplyWait then { t with supplyWait := false, holdTimer := t.holdTimer.atLeast (ms 500) } else t

/-- The hold timer expires: STOPPED, and a HELD lane whose supply-wait flag is clear goes to MOVING with an empty window
(R28, R30). -/
def Settler.holdExpired (t : Settler) : Settler :=
  if t.state = some .held ∧ t.supplyWait = false then
    { t with state := some .moving, window := [], settleCounter := 0, motionRun := 0, holdTimer := .stopped }
  else { t with holdTimer := .stopped }

/-- The settlers of the enabled lanes changed by one rule. -/
def State.mapSettlers (s : State) (f : Settler → Settler) : State :=
  s.mapLanes fun l u => if laneEnabled s.running l then { u with settler := f u.settler } else u

/-- A timed hold for every enabled lane, with the front end's part of the changes of lane state (R7, R8, R25 to R27). -/
def State.holdLanes (s : State) (d : Nat) : State := (s.mapSettlers (Settler.timedHold d)).settleFrontEnd s

/-! ## The commands -/

/-- HOLD_TIMER_EXPIRY: a lane's hold timer expires (R28, R30). -/
def execHoldTimerExpiry (l : Lane) (s : State) : Result :=
  takeEvent s fun s =>
    if (s.lane l).settler.holdTimer.due then
      (s.setSettler l (s.lane l).settler.holdExpired).settleFrontEnd s
    else s

/-- QUIET_TIMER_EXPIRY: SLOW, the timer STOPPED, the next round rescheduled (R2, R8). -/
def execQuietTimerExpiry (s : State) : Result :=
  takeEvent s fun s =>
    if s.frontEnd.quietTimer.due then
      { s with frontEnd := { s.frontEnd.toMode .slow with quietTimer := .stopped } }
    else s

/-- SHOCK_SPACING_TIMER_EXPIRY: the timer is STOPPED (R11). -/
def execShockSpacingTimerExpiry (s : State) : Result :=
  takeEvent s fun s =>
    if s.frontEnd.spacingTimer.due then { s with frontEnd := { s.frontEnd with spacingTimer := .stopped } } else s

end Sys2Proof.Machine
end

