-- ==== Sys2Proof/Machine/Counting.lean ====
section
/-! DEFINITION. The settle event: the settler's part (R36, R37) and the count unit's work on the settle record in the
order of R39, with the matcher's and the stock view's parts called where the rules place them. -/

namespace Sys2Proof.Machine

open Sys2Proof.Config

/-- The settle record with the figures of the event (R36, R53). -/
def SettleReport.ofFigures (outcome : SettleOutcome) (filtered : Int) (f : Figures) : SettleReport :=
  { outcome := outcome, filtered := some filtered, effective := some f.effective, n := some f.n,
    residual := some f.residual, tolerance := some f.tolerance, movement := none, accepted := none, zeroTracked := none }

/-- The last settle report of a lane set (R53). -/
def State.setReport (s : State) (l : Lane) (r : SettleReport) : State :=
  s.setCounting l { (s.lane l).counting with report := r }

/-- The foreign grams of a lane: 0 without a foreign record (R40). -/
def State.foreignGrams (s : State) (l : Lane) : Int := ((s.lane l).foreign.map ForeignRecord.grams).getD 0

/-- The settler at its settle event: W is F, the lane known and STABLE (R36, step 3). -/
def Settler.settled (filtered : Int) (t : Settler) : Settler :=
  { t with reference := filtered, known := true, state := some .stable, settleCounter := 0, motionRun := 0 }

/-- The count set and the doubt counter moved, with the AUDIT notice when the AUDIT flag changes (R44, R110). -/
def State.applyCount (s : State) (l : Lane) (f : Figures) : State :=
  let c := (s.lane l).counting
  let doubt := nextDoubt f.accepted c.doubt
  let audit := nextAudit doubt c.audit
  let s1 := s.setCounting l { c with count := f.n, doubt := doubt, audit := audit }
  if audit = c.audit then s1 else s1.changeNotice l fun n => { n with audit := audit }

/-- Zero tracking applies to a settle of a lane (R48). -/
def tracksZero (lr : LaneRecord) (f : Figures) (hasForeign : Bool) : Bool :=
  f.accepted && decide (f.n = 0) && !hasForeign && decide (f.effective.natAbs ≤ trackingBound lr)

/-- The zero offset after tracking (R49). -/
def trackedOffset (offset filtered : Int) : Int := clampInt (-500) 500 (offset + filtered)

/-- The zero offset updated: when it changes, W is restated and the window emptied (R37, R49). The offset before the change
stays beside it for a sample whose arithmetic was done first (R4, R37). -/
def State.trackZero (s : State) (l : Lane) (filtered : Int) : State :=
  let u := s.lane l
  let offset := trackedOffset u.counting.zeroOffset filtered
  if offset = u.counting.zeroOffset then s
  else
    s.setLane l { u with
      counting := { u.counting with zeroOffset := offset, priorOffset := some u.counting.zeroOffset }
      settler := { u.settler with reference := filtered - (offset - u.counting.zeroOffset), window := [] } }

/-- Zero tracking tested and, where it applies, made (R48, R49). -/
def State.testZero (s : State) (l : Lane) (filtered : Int) (f : Figures) : State :=
  if tracksZero (laneOf s.running l) f (s.lane l).foreign.isSome then s.trackZero l filtered else s

/-- The first settle after RUN entry: a starting count, no movement, one report (R45). -/
def State.firstSettle (s : State) (l : Lane) (filtered : Int) : State :=
  let lr := laneOf s.running l
  let f := figuresOf lr filtered (s.foreignGrams l)
  let tracked := tracksZero lr f (s.lane l).foreign.isSome
  let s1 := ((s.applyCount l f).testZero l filtered f).setReport l
    { SettleReport.ofFigures .first filtered f with accepted := some f.accepted, zeroTracked := some tracked }
  let out := s1.reportLane l
  out.1.evaluateAll out.2

/-- The foreign item has left: its record is cleared and nothing is counted (R46, R74). -/
def State.clearForeign (s : State) (l : Lane) (filtered : Int) : State :=
  (s.setForeign l none).setReport l { SettleReport.bare .foreignCleared with filtered := some filtered }

/-- A foreign item has arrived: the rejection is withdrawn, the record set, the matched offer dealt with (R47, R73). -/
def State.takeForeign (s : State) (l : Lane) (filtered delta : Int) (f : Figures) (m : ForeignMatch) : State :=
  let s1 := ((s.setForeign l (some (m.record s.running.station delta))).setTallies l Tallies.addForeignSeen).setReport l
    (SettleReport.ofFigures .foreignSet filtered f)
  let out := s1.dealWithMatch m
  out.1.evaluateAll out.2

/-- The report of a counted settle (R53). DEDUCED (log 29): the table of R53 lists no accepted-or-rejected figure for the
outcomes ACCEPTED and REJECTED, which say it themselves, so that figure is absent and reads 0 in READ LANE (R173). -/
def countedReport (filtered delta : Int) (f : Figures) (tracked : Bool) : SettleReport :=
  if f.accepted then
    { SettleReport.ofFigures .accepted filtered f with movement := some delta, zeroTracked := some tracked }
  else { SettleReport.ofFigures .rejected filtered f with movement := some delta }

/-- Steps 5 and 6 of R39: the count and doubt counter, zero tracking, the movement to the matcher and then the report to
the stock view, and the evaluations owed, once each (R44, R48, R50, R51, R76). -/
def State.countSettle (s : State) (l : Lane) (filtered : Int) (f : Figures) : State :=
  let before := (s.lane l).counting
  let delta : Int := (f.n : Int) - (before.count : Int)
  let tracked := tracksZero (laneOf s.running l) f (s.lane l).foreign.isSome
  let s1 := ((s.applyCount l f).testZero l filtered f).setReport l (countedReport filtered delta f tracked)
  let moved := if delta = 0 then (s1, []) else s1.handMovement l delta
  let reported :=
    if delta = 0 ∧ (moved.1.lane l).counting.audit = before.audit then (moved.1, []) else moved.1.reportLane l
  reported.1.evaluateAll (moved.2 ++ reported.2)

/-- The count unit's work on a settle record, in the order of R39. -/
def State.countUnit (s : State) (l : Lane) (filtered previous : Int) (known : Bool) : State :=
  let lr := laneOf s.running l
  let delta := filtered - previous
  if known = false then s.firstSettle l filtered
  else if (s.lane l).foreign.any (fun r => decide (delta < 0) && removalFits r delta lr.baseTol) then
    s.clearForeign l filtered
  else
    let f := figuresOf lr filtered (s.foreignGrams l)
    if f.accepted = false ∧ 0 < delta ∧ (s.lane l).foreign = none then
      match s.foreignSearch l delta with
      | some m => s.takeForeign l filtered delta f m
      | none => s.countSettle l filtered f
    else s.countSettle l filtered f

/-- The settle event of a lane (R36): F from the window, the settler's change, the count unit's work. -/
def State.settleEvent (s : State) (l : Lane) : State :=
  let t := (s.lane l).settler
  let filtered := filteredWeight t.window
  (s.setSettler l (t.settled filtered)).countUnit l filtered t.reference t.known

end Sys2Proof.Machine
end

