-- ==== Sys2Proof/Machine/Settling.lean ====
section
/-! DEFINITION. What one sample does to a lane's settler (R20 to R24, R31 to R34). -/

namespace Sys2Proof.Machine

open Sys2Proof.Config

/-- What a sample is to the settler: an IN-RANGE weight, or a sample at or beyond an end of the range. -/
inductive Reading where
  | grams (g : Int)
  | beyond
  deriving DecidableEq, Repr

/-- The settler's reading of a sample record; none for a RAW-ONLY record, which does not arise in RUN (R3, R20). -/
def readingOf (x : Sample) : Option Reading :=
  match x.cls with
  | .inRange => x.grams.map Reading.grams
  | .over | .under => some .beyond
  | .rawOnly => none

/-- Entry into FAULT (R32). -/
def Settler.enterFault (t : Settler) : Settler :=
  { t with state := some .fault, window := [], settleCounter := 0, motionRun := 0, outOfRangeRun := 0, inRangeRun := 0,
           holdTimer := .stopped, supplyWait := false }

/-- The out-of-range run after a sample (R32). -/
def Settler.countRange (t : Settler) : Reading → Settler
  | .grams _ => { t with outOfRangeRun := 0 }
  | .beyond => { t with outOfRangeRun := t.outOfRangeRun + 1 }

/-- A sample in FAULT: sixteen in-range samples in a row lead to MOVING with an empty window (R33). -/
def Settler.recover (t : Settler) : Reading → Settler
  | .beyond => { t with inRangeRun := 0 }
  | .grams _ =>
    if t.inRangeRun + 1 = 16 then
      { t with state := some .moving, window := [], settleCounter := 0, motionRun := 0, inRangeRun := 0,
               outOfRangeRun := 0 }
    else { t with inRangeRun := t.inRangeRun + 1 }

/-- A sample in MOVING (R20, R23). -/
def Settler.whileMoving (band : Nat) (t : Settler) : Reading → Settler
  | .beyond => t
  | .grams g =>
    let w := pushSample t.window g
    if narrow band w then { t with window := w, state := some .settling, settleCounter := 1 }
    else { t with window := w, settleCounter := 0 }

/-- A sample in SETTLING; the settle event at Ks is taken by the caller (R20, R24). -/
def Settler.whileSettling (band : Nat) (t : Settler) : Reading → Settler
  | .beyond => { t with state := some .moving, settleCounter := 0 }
  | .grams g =>
    let w := pushSample t.window g
    if narrow band w then { t with window := w, settleCounter := t.settleCounter + 1 }
    else { t with window := w, state := some .moving, settleCounter := 0 }

/-- The motion run counted; at 2 the lane leaves STABLE for MOVING (R22). -/
def Settler.countMotion (away : Bool) (t : Settler) : Settler :=
  if away = false then { t with motionRun := 0 }
  else if t.motionRun + 1 = 2 then { t with state := some .moving, motionRun := 0 }
  else { t with motionRun := t.motionRun + 1 }

/-- A sample in STABLE (R20, R22). -/
def Settler.whileStable (motion : Nat) (t : Settler) : Reading → Settler
  | .beyond => t.countMotion true
  | .grams g =>
    Settler.countMotion (decide (motion < (g - t.reference).natAbs)) { t with window := pushSample t.window g }

/-- A sample in a lane's settler (R20 to R24, R31 to R33). -/
def Settler.take (lr : LaneRecord) (t : Settler) (x : Reading) : Settler :=
  match t.state with
  | none => t
  | some .fault => t.recover x
  | some st =>
    let t1 := t.countRange x
    if t1.outOfRangeRun = 3 then t1.enterFault
    else
      match st with
      | .moving => t1.whileMoving lr.band x
      | .settling => t1.whileSettling lr.band x
      | .stable => t1.whileStable lr.motion x
      | .held | .fault => t1

/-- The sample has brought the settle counter of a lane in SETTLING to Ks (R24, R36). -/
def Settler.settles (lr : LaneRecord) (t : Settler) : Bool :=
  decide (t.state = some .settling) && decide (t.settleCounter = lr.settleCount)

/-- A lane's entry into or exit from FAULT is made known to the alert unit and the stock view (R34). -/
def State.faultChanged (s : State) (l : Lane) (fault : Bool) : State :=
  (s.changeNotice l fun n => { n with fault := fault }).rederiveUncertain l

/-- A sample record handed to a lane's settler, with all that the sample brings about (R6, R22 to R24, R31 to R36). -/
def State.settleSample (s : State) (l : Lane) (x : Sample) : State :=
  match readingOf x with
  | none => s
  | some r =>
    let before := (s.lane l).settler
    let after := before.take (laneOf s.running l) r
    let s1 := s.setSettler l after
    let s2 :=
      if after.settles (laneOf s.running l) then s1.settleEvent l
      else if after.state = some .fault ∧ before.state ≠ some .fault then s1.faultChanged l true
      else if after.state ≠ some .fault ∧ before.state = some .fault then s1.faultChanged l false
      else s1
    s2.settleFrontEnd s

end Sys2Proof.Machine
end

