-- ==== Sys2Proof/Machine/Lifecycle.lean ====
section
/-! DEFINITION. The events that every block takes part in: the end of a capture or of a STORE, the beginning and end of
supply hold (R15, R16), a restart (R164), entry into CONFIGURING (R165) and RUN entry (R170). -/

namespace Sys2Proof.Machine

open Sys2Proof.Config

/-! ## Captures and STORE that end -/

/-- A capture ends with a result: the operation becomes NONE and its progress is removed (R160, R161). -/
def State.endCapture (s : State) (code : ResultCode) (detail : Nat) : State :=
  State.setResult { s with port := { s.port with operation := .none, capture := none } } code detail

/-- A capture in progress fails (R161). -/
def State.failCapture (s : State) : State :=
  match s.port.capture with
  | some c => s.endCapture .captureFailed c.lane.number
  | none => s

/-- The start-up block after a STORE in progress has been stopped: the marker stays INVALID, and what part of the image had
been written is open (R166, R168). -/
def State.stoppedStore (s : State) : StartUp :=
  match s.startUp.storePhase with
  | .none => s.startUp
  | .markerCleared => { s.startUp with storePhase := .none, markerValid := false }
  | .writing =>
    { s.startUp with storePhase := .none, markerValid := false,
                     image := partialImage s.startUp.image s.working s.startUp.stoppedStores,
                     stoppedStores := s.startUp.stoppedStores + 1 }

/-- Supply hold stops a STORE in progress (R168). -/
def State.failStore (s : State) : State :=
  State.setResult { s with startUp := s.stoppedStore, port := { s.port with operation := .none } } .storeFailed 0

/-! ## Supply hold (R15, R16) -/

/-- What the port and the store do at the start of supply hold (R15). -/
def State.failOperation (s : State) : State :=
  match s.port.operation with
  | .none => s
  | .captureZero | .captureSpan => s.failCapture
  | .store => s.failStore

/-- Supply hold begins (R15, R28). -/
def State.beginSupplyHold (s : State) : State :=
  let s1 : State :=
    { s with frontEnd := { s.frontEnd with supplyHold := true, goodRun := 0, conversionsDue := [] } }
  match s.startUp.node with
  | .run => ((s1.mapSettlers Settler.supplyHeld).settleFrontEnd s1).enterFast
  | .configuring => s1.enterFast.failOperation
  | .starting => s1

/-- Supply hold ends (R16, R29). -/
def State.endSupplyHold (s : State) : State :=
  State.mapLanes
    { s with frontEnd := { s.frontEnd with supplyHold := false, goodRun := 0, badRun := 0 } }
    fun _ u => { u with warmUp := 8, settler := u.settler.supplyReleased }

/-! ## Restart (R164) -/

/-- A restart is held while VDD is below 2.6 V or RESETN is low (R164). -/
def Pins.held (p : Pins) : Bool := p.resetnLow || decide (p.vdd = .belowRetention) || decide (p.vdd = .belowRestart)

/-- A restart begins, or is renewed, with a cause: every block is cleared, a STORE in progress stops, and the start delay
runs from 25 ms unless the restart is held. The image, its marker, the pins and the record of the cause remain (R164,
R17, R19, R38, R55, R78, R96, R133, R145, R147, R168). -/
def State.restart (s : State) (cause : RestartCause) : State :=
  { s with
    frontEnd := FrontEnd.cleared
    lanes := Vector.replicate 4 LaneUnit.cleared
    matcher := Matcher.cleared
    slots := Vector.replicate 8 SlotUnit.cleared
    carriers := Vector.replicate 32 none
    settlingIn := .notStarted
    queue := TransmitQueue.cleared
    link := Link.cleared
    port := Port.cleared
    startUp :=
      { s.stoppedStore with
        node := .starting
        startDelay := if s.pins.held then .stopped else .running (ms 25)
        cause := cause
        indicatorClock := none }
    working := NodeConfig.default
    running := NodeConfig.default }

/-! ## Entry into CONFIGURING and RUN (R165, R170) -/

/-- The front end after the start delay: the first round starts at once, and the dip filter starts at once when VDD is below
the hold level at that instant; the comparator watches the lanes selected then (R9, R17, R165). -/
def FrontEnd.atStart (vdd : VddLevel) (lanes : List Lane) : FrontEnd :=
  { FrontEnd.cleared with
    roundTimer := .running 0
    sinceRound := ms 200
    roundLanes := lanes
    dipFilter := if vdd = .atHold then .stopped else .running (ms 2) }

/-- The start-up block after the start decision: the delay STOPPED, the indicator clock started (R114, R164). -/
def StartUp.decided (u : StartUp) (node : NodeState) : StartUp :=
  { u with node := node, startDelay := .stopped, indicatorClock := some 0 }

/-- Entry into CONFIGURING with a working copy and a last result (R165, R17, R38, R55, R78, R96, R133, R145, R147). DESIGN
CHOICE (log 31): with CPSEL already low the first outgoing byte begins at the decision, as if CPSEL had gone low then; R149
names no instant for it. -/
def State.enterConfiguring (s : State) (working : NodeConfig) (code : ResultCode) (detail : Nat) : State :=
  { s.mapLanes fun _ u => { u with warmUp := 8, lastSample := Sample.cleared } with
    frontEnd := FrontEnd.atStart s.pins.vdd (enabledLanes working)
    port := { Port.cleared with result := code, detail := detail, outgoing := BitVec.ofNat 8 (resultNumber code) }
    startUp := s.startUp.decided .configuring
    working := working }

/-- A lane at RUN entry: the last sample stays, an enabled lane has its settler in MOVING, all else is cleared; with supply
hold in force an enabled lane is told of it at once (R18, R19, R28, R38, R55, R96). -/
def LaneUnit.atRunEntry (enabled supplyHold : Bool) (u : LaneUnit) : LaneUnit :=
  { LaneUnit.cleared with
    lastSample := u.lastSample
    settler :=
      if enabled then (if supplyHold then Settler.runEntry.supplyHeld else Settler.runEntry) else Settler.cleared }

/-- The front end at RUN entry: FAST, the next round at once, quiet timer, shock latch and spacing timer cleared; the supply
items keep their values, and the comparator watches the enabled lanes (R9, R18). -/
def FrontEnd.atRunEntry (f : FrontEnd) (lanes : List Lane) : FrontEnd :=
  { f with
    mode := .fast, roundTimer := .running 0, sinceRound := ms 200, checkDue := false, conversionsDue := [],
    roundLanes := lanes, lateSample := none, quietTimer := .stopped, shockLatch := false, spacingTimer := .stopped }

/-- RUN entry with a running configuration (R170). -/
def State.enterRun (s : State) (cfg : NodeConfig) : State :=
  let s1 := s.mapLanes fun l u => u.atRunEntry (laneEnabled cfg l) s.frontEnd.supplyHold
  { s1 with
    frontEnd := s.frontEnd.atRunEntry (enabledLanes cfg)
    matcher := Matcher.cleared
    slots := Vector.replicate 8 SlotUnit.cleared
    carriers := Vector.replicate 32 none
    settlingIn := .notStarted
    queue :=
      { requests := [{ key := .presence, age := s.now, inFlight := false, renewal := none, claimType := none }]
        presenceTimer := .running (sec 10)
        restartFlag := true }
    link := { Link.cleared with state := .joining, receiver := .searching }
    startUp := { s.startUp with node := .run }
    working := cfg
    running := cfg }

end Sys2Proof.Machine
end

