-- ==== Sys2Proof/Machine/FrontEnd.lean ====
section
/-! DEFINITION. The commands of the weighing front end (chapter 1): rounds, the excitation check, sample events, the shock
comparator and the supply monitor's hold level. -/

namespace Sys2Proof.Machine

open Sys2Proof.Config

/-! ## Rounds (R1, R2, R5, R10 to R12) -/

/-- A SHOCK request is considered (R11). -/
def State.considerShock (s : State) : State :=
  if s.frontEnd.spacingTimer.isRunning then s
  else State.place { s with frontEnd := { s.frontEnd with spacingTimer := .running (ms 1000) } } .shock

/-- The shock latch is tested at a round start and a SET latch consumed (R10, R12). -/
def State.consumeLatch (s : State) : State :=
  if s.frontEnd.shockLatch then
    let s1 : State := { s with frontEnd := { s.frontEnd with shockLatch := false } }
    match s.startUp.node with
    | .run => (s1.holdLanes (ms 1500)).considerShock
    | .configuring => s1.failCapture
    | .starting => s1
  else s

/-- A round begins: its set of lanes is fixed, and a lane that was not converted in the round before starts its warm-up (R1, R2,
R5). From here on the shock comparator's sum adds those lanes, and with none its output is inactive (R9, R157). DESIGN CHOICE
(log 23): R159 and R160 give the next round as the instant for the conversions of a lane that a capture adds or drops; the
comparator follows at the same instant. -/
def State.beginRound (s : State) : State :=
  let lanes := s.selectedLanes
  let s1 := s.mapLanes fun l u =>
    if lanes.contains l && !s.frontEnd.roundLanes.contains l then { u with warmUp := 8 } else u
  { s1 with
    frontEnd :=
      { s.frontEnd with
        roundTimer := .running (period s.frontEnd.mode), sinceRound := 0, checkDue := true, conversionsDue := lanes,
        roundLanes := lanes, lateSample := none, comparatorActive := s.frontEnd.comparatorActive && !lanes.isEmpty } }

/-- ROUND_START: the round timer has run out; the shock latch is tested, then the round begins (R1, R2, R10, R12). No round
starts in STARTING (R17). -/
def execRoundStart (s : State) : Result :=
  takeEvent s fun s =>
    if s.startUp.node ≠ .starting ∧ s.frontEnd.roundTimer.due = true then s.consumeLatch.beginRound else s

/-! ## The excitation check (R13, R16) -/

/-- The check outside supply hold: a second BAD check in a row begins supply hold (R13). -/
def State.checkOutsideHold (s : State) (e : Excitation) : State :=
  match e with
  | .good => { s with frontEnd := { s.frontEnd with badRun := 0 } }
  | .bad =>
    if 2 ≤ s.frontEnd.badRun + 1 then
      State.beginSupplyHold { s with frontEnd := { s.frontEnd with badRun := 0 } }
    else { s with frontEnd := { s.frontEnd with badRun := s.frontEnd.badRun + 1 } }

/-- The check during supply hold: a second check in a row with supply and excitation good ends it; otherwise the round is
the check alone (R1, R16). -/
def State.checkInHold (s : State) (e : Excitation) : State :=
  if e = .good ∧ s.pins.vdd = .atHold then
    if 2 ≤ s.frontEnd.goodRun + 1 then s.endSupplyHold
    else { s with frontEnd := { s.frontEnd with goodRun := s.frontEnd.goodRun + 1, conversionsDue := [] } }
  else { s with frontEnd := { s.frontEnd with goodRun := 0, conversionsDue := [] } }

/-- EXCITATION_CHECK: the check of the round in progress completes (R13, R15, R16). -/
def execExcitationCheck (r : ExcitationReading) (s : State) : Result :=
  takeEvent s fun s =>
    if s.frontEnd.checkDue then
      let s1 : State := { s with frontEnd := { s.frontEnd with checkDue := false, excitation := excitationOf r } }
      if s.frontEnd.supplyHold then s1.checkInHold (excitationOf r) else s1.checkOutsideHold (excitationOf r)
    else s

/-! ## Sample events (R3 to R6) -/

/-- A lane record of the working copy set. -/
def State.setWorkingLane (s : State) (l : Lane) (lr : LaneRecord) : State :=
  { s with working := { s.working with lanes := s.working.lanes.set l.idx.val lr l.idx.isLt } }

/-- A capture completes at its 32nd sample (R160). -/
def State.completeCapture (s : State) (c : Capture) : State :=
  let lr := laneOf s.working c.lane
  match s.port.operation with
  | .captureZero => (s.setWorkingLane c.lane { lr with zeroCode := roundDiv c.sum 32 }).endCapture .ok 0
  | _ =>
    match capturedSpan c.load c.sum lr.zeroCode with
    | some span => (s.setWorkingLane c.lane { lr with span := span, spanCaptured := true }).endCapture .ok 0
    | none => s.endCapture .refusedRange 0

/-- A sample record handed to a capture in progress on its lane (R6, R159, R161). -/
def State.captureSample (s : State) (l : Lane) (x : Sample) : State :=
  match s.port.capture with
  | none => s
  | some c =>
    if c.lane ≠ l then s
    else if x.raw = 8388607 ∨ x.raw = -8388608 then s.failCapture
    else
      let c1 := { c with samples := c.samples + 1, sum := c.sum + x.raw }
      if c1.samples = 32 then s.completeCapture c1 else { s with port := { s.port with capture := some c1 } }

/-- A sample record that is not discarded goes to its receiver (R6). -/
def State.handOn (s : State) (l : Lane) (x : Sample) : State :=
  match s.startUp.node with
  | .run => s.settleSample l x
  | .configuring => s.captureSample l x
  | .starting => s

/-- The zero offset of a sample's arithmetic: the one in force, or the one before a change made by the event before when the
arithmetic was done first (R3, R4, R37). -/
def CountUnit.arithmeticOffset (c : CountUnit) (computedFirst : Bool) : Int :=
  if computedFirst then c.priorOffset.getD c.zeroOffset else c.zeroOffset

/-- The conversion that completes next is that of this lane: the next of the round in progress (R1), or the 32nd sample of a
capture that a supply hold of the same instant has failed first (R161). -/
def State.conversionDue (s : State) (l : Lane) : Bool :=
  decide (s.frontEnd.conversionsDue.head? = some l) && !s.frontEnd.checkDue && !s.frontEnd.supplyHold ||
    decide (s.frontEnd.lateSample = some l)

/-- The front end after a conversion has completed. -/
def FrontEnd.converted (f : FrontEnd) : FrontEnd :=
  { f with conversionsDue := f.conversionsDue.tail, lateSample := none }

/-- SAMPLE_EVENT: the sample record becomes the lane's last sample, and is discarded as warm-up or handed on (R3 to R6).
The conversions of a round complete in lane order, after its excitation check (R1). -/
def execSampleEvent (l : Lane) (code : BitVec 24) (s : State) (computedFirst : Bool := false) : Result :=
  takeEvent s fun s =>
    if s.conversionDue l then
      let u := s.lane l
      let x := sampleOf (laneOf s.config l) (u.counting.arithmeticOffset computedFirst) code
      let taken : LaneUnit := { u with lastSample := x, counting := { u.counting with priorOffset := none } }
      let s1 : State := { s with frontEnd := s.frontEnd.converted }
      if 0 < u.warmUp then s1.setLane l { taken with warmUp := u.warmUp - 1 } else (s1.setLane l taken).handOn l x
    else s

/-! ## The shock comparator (R9) -/

/-- The comparator compares a rate of change with the threshold of the shock level in force, that of the working copy in
CONFIGURING from the completion of its SET LINK on (R9, R154). -/
def State.shocks (s : State) (rate : SignalRate) : Bool := exceedsThreshold s.config.shockLevel rate

/-- SHOCK_COMPARATOR_EDGE: with the rate of change above the threshold, an output that was inactive becomes active and sets the
shock latch; FAST mode, and the quiet timer STOPPED (R7, R9). With no lane in the sum the output is inactive. -/
def execShockComparatorEdge (s : State) (rate : SignalRate := .full) : Result :=
  takeEvent s fun s =>
    if s.frontEnd.comparatorActive = false ∧ s.frontEnd.roundLanes ≠ [] ∧ s.shocks rate = true then
      State.enterFast { s with frontEnd := { s.frontEnd with comparatorActive := true, shockLatch := true } }
    else s

/-- COMPARATOR_OUTPUT_INACTIVE: the rate of change does not exceed the threshold, and the output returns to inactive (R9). -/
def execComparatorOutputInactive (s : State) (rate : SignalRate := .zero) : Result :=
  takeEvent s fun s =>
    if s.shocks rate then s else { s with frontEnd := { s.frontEnd with comparatorActive := false } }

/-! ## The hold level (R14, R15) -/

/-- VDD_BELOW_HOLD_LEVEL: a new dip starts the dip filter at 2 ms unless it is RUNNING (R14). In STARTING the front end does
not run, and only the level is taken (R17). -/
def execVddBelowHoldLevel (s : State) : Result :=
  takeEvent s fun s =>
    if s.pins.vdd = .atHold then
      let s1 : State := { s with pins := { s.pins with vdd := .belowHold } }
      if s.startUp.node = .starting ∨ s.frontEnd.dipFilter.isRunning = true then s1
      else { s1 with frontEnd := { s1.frontEnd with dipFilter := .running (ms 2) } }
    else s

/-- VDD_AT_HOLD_LEVEL: VDD is back at or above the hold level, and a running dip filter is STOPPED (R14). -/
def execVddAtHoldLevel (s : State) : Result :=
  takeEvent s fun s =>
    { s with pins := { s.pins with vdd := .atHold }, frontEnd := { s.frontEnd with dipFilter := .stopped } }

/-- The lane whose conversion due next would be the 32nd sample of the capture in progress (R159). -/
def State.finalSample (s : State) : Option Lane :=
  s.port.capture.bind fun c =>
    if s.startUp.node = .configuring ∧ c.samples = 31 ∧ (s.lane c.lane).warmUp = 0 ∧ s.conversionDue c.lane = true then
      some c.lane
    else none

/-- DIP_FILTER_EXPIRY: the filter becomes STOPPED, and supply hold begins if it is not in force (R14, R15). The 32nd sample of a
capture that this fails may fall together with it, and is then kept as the lane's last sample (R161, log 28). -/
def execDipFilterExpiry (s : State) : Result :=
  takeEvent s fun s =>
    if s.frontEnd.dipFilter.due then
      let s1 : State := { s with frontEnd := { s.frontEnd with dipFilter := .stopped } }
      if s.frontEnd.supplyHold then s1
      else State.beginSupplyHold { s1 with frontEnd := { s1.frontEnd with lateSample := s.finalSample } }
    else s

end Sys2Proof.Machine
end

