-- ==== Sys2Proof/Machine/PortReads.lean ====
section
/-! DEFINITION. The read replies of the commissioning port, byte by byte (R135, R144, R163, R173, section 12.3). -/

namespace Sys2Proof.Machine

open Sys2Proof.Config

/-! ## Enumerations (section 12.3) -/

def nodeCode : NodeState → Nat
  | .starting => 0
  | .configuring => 1
  | .run => 2

def operationCode : Operation → Nat
  | .none => 0
  | .captureZero => 1
  | .captureSpan => 2
  | .store => 3

def linkCode : LinkState → Nat
  | .off => 0
  | .joining => 1
  | .active => 2
  | .quarantine => 3
  | .silenced => 4

def laneStateCode : Option LaneState → Nat
  | none => 0
  | some .moving => 1
  | some .settling => 2
  | some .stable => 3
  | some .held => 4
  | some .fault => 5

def sampleClassCode : SampleClass → Nat
  | .rawOnly => 0
  | .inRange => 1
  | .over => 2
  | .under => 3

def outcomeCode : SettleOutcome → Nat
  | .none => 0
  | .first => 1
  | .accepted => 2
  | .rejected => 3
  | .foreignSet => 4
  | .foreignCleared => 5

def slotClassCode : SlotClass → Nat
  | .idle => 0
  | .article => 1
  | .shadowed => 2

def alertStateCode : AlertState → Nat
  | .normal => 0
  | .deferred => 1
  | .raised => 2
  | .following => 3
  | .muted => 4

def lastSentCode : LastSent → Nat
  | .none => 0
  | .raised => 1
  | .muted => 2

def indicatorCode : IndicatorDrive → Nat
  | .off => 0
  | .slowBlink => 1
  | .fastBlink => 2
  | .steady => 3

/-- State of the settling-in timer: NOT STARTED, RUNNING, ENDED. -/
def settlingInCode : SettlingIn → Nat
  | .notStarted => 0
  | .running _ => 1
  | .ended => 2

/-- Remaining time of the settling-in timer. -/
def SettlingIn.remaining : SettlingIn → Nat
  | .running t => t
  | _ => 0

/-- A byte that holds one flag alone. DESIGN CHOICE (log 33): section 12.3 names no bit and no value for it; here the flag is bit
0, and the byte reads 1 when it is set. -/
def loneFlag (flag : Bool) : List Byte := u8 (flagBit 0 flag)

/-! ## READ STATUS -/

/-- The 24-byte reply of READ STATUS. The restart flag has byte 22 alone (log 33). -/
def State.statusReply (s : State) : List Byte :=
  u8 (nodeCode s.startUp.node) ++ u8 (causeCode s.startUp.cause) ++ u8 s.config.station ++
  u8 (resultNumber s.port.result) ++ u8 s.port.detail ++
  u8 (operationCode s.port.operation) ++ u8 ((s.port.capture.map fun c => c.lane.number).getD 0) ++
  u8 ((s.port.capture.map Capture.samples).getD 0) ++
  u8 (if s.frontEnd.mode = .slow then 1 else 0) ++
  u8 (flagBit 0 s.frontEnd.supplyHold + flagBit 1 (decide (s.frontEnd.excitation = .bad))) ++
  u8 s.matcher.pendingOut.length ++ u8 s.matcher.heard.length ++ [s.matcher.tagCounter] ++
  u8 s.carrierEntries.length ++
  u8 (settlingInCode s.settlingIn) ++ u8 (wholeSeconds s.settlingIn.remaining) ++
  u8 (linkCode s.link.state) ++ u8 s.link.health ++ u8 (wholeSeconds s.link.quarantineTimer.remaining) ++
  u8 (flagBit 0 s.link.addressConflict + flagBit 1 (decide (s.config.bitRate = .k100))) ++
  u8 s.queue.requests.length ++ u8 (claimsHeld s.queue.requests) ++
  loneFlag s.queue.restartFlag ++ u8 (flagBit 0 s.startUp.markerValid)

/-! ## READ LANE -/

/-- A lane record as the window write lays it out, the span field 0 while no span is captured (R173). -/
def laneRecordBytes (r : LaneRecord) : List Byte :=
  u8 (flagBit 7 r.enabled + r.slot.val) ++ u16 r.unitWeight ++ u8 r.allowance ++ u16 r.baseTol ++ u16 r.motion ++
  u16 r.band ++ u8 r.settleCount ++ i24 r.zeroCode ++ u16 (if r.spanCaptured then r.span else 0)

/-- The last sample: raw code, class, grams. -/
def sampleBytes (x : Sample) : List Byte := i24 x.raw ++ u8 (sampleClassCode x.cls) ++ i24 (x.grams.getD 0)

/-- The settler's items; the spread only of a full window, as 65,535 above that (R35). -/
def settlerBytes (t : Settler) : List Byte :=
  u8 (laneStateCode t.state) ++ u8 t.window.length ++
  u16 (if t.window.length = 8 then min 65535 (spread t.window).toNat else 0) ++
  i24 t.reference ++ u8 t.settleCounter ++ u8 (flagBit 0 t.known + flagBit 1 t.supplyWait) ++
  u16 (wholeMs t.holdTimer.remaining) ++ u8 t.outOfRangeRun ++ u8 t.inRangeRun

/-- The five tallies. -/
def tallyBytes (t : Tallies) : List Byte :=
  u16 t.picks ++ u16 t.relocatedOut ++ u16 t.matchedIn ++ u16 t.restockIn ++ u16 t.foreignSeen

/-- The last settle report; an absent figure reads 0 (R173). -/
def reportBytes (r : SettleReport) : List Byte :=
  u8 (outcomeCode r.outcome) ++ i24 (r.filtered.getD 0) ++ i24 (r.effective.getD 0) ++ u16 (r.n.getD 0) ++
  i32 (r.residual.getD 0) ++ u24 (r.tolerance.getD 0) ++ i16 (r.movement.getD 0) ++
  u8 (flagBit 0 (r.accepted.getD false) + flagBit 1 (r.zeroTracked.getD false))

/-- The count unit's items before the report. The AUDIT flag has byte 39 of READ LANE alone (log 33). -/
def countingBytes (c : CountUnit) : List Byte :=
  u16 c.count ++ u8 c.doubt ++ loneFlag c.audit ++ i16 c.zeroOffset ++ tallyBytes c.tallies

/-- The foreign record, or its absence. Whether one is present has byte 71 of READ LANE alone (log 33). -/
def foreignBytes : Option ForeignRecord → List Byte
  | none => loneFlag false ++ u24 0 ++ u24 0 ++ u8 0 ++ u8 0
  | some r => loneFlag true ++ u24 r.article ++ u24 r.grams.toNat ++ u8 r.origin ++ [r.tag]

/-- The 83-byte reply of READ LANE. -/
def State.laneReply (s : State) (l : Lane) : List Byte :=
  let u := s.lane l
  laneRecordBytes (laneOf s.config l) ++ sampleBytes u.lastSample ++ settlerBytes u.settler ++
  countingBytes u.counting ++ reportBytes u.counting.report ++ foreignBytes u.foreign ++
  u8 u.notice.flags ++ u8 (wholeSeconds u.notice.timer.remaining) ++ u8 (indicatorCode u.notice.indicator)

/-! ## READ SLOT -/

/-- C as READ SLOT reports it: of an article slot only (R94). -/
def State.reportedCombined (s : State) (i : Slot) : Nat :=
  if slotClass s.config i = .article then s.combined i else 0

/-- The 22-byte reply of READ SLOT. A shadowed or idle slot holds the cleared state, which reads as zeros (R94, R115). -/
def State.slotReply (s : State) (i : Slot) : List Byte :=
  let r := slotOf s.config i
  let u := s.slot i
  u24 r.article ++ u16 r.reorderPoint ++ u16 r.hysteresis ++ u8 (slotClassCode (slotClass s.config i)) ++
  u16 u.holding ++ u8 (flagBit 0 u.ready + flagBit 1 u.uncertain) ++ u24 (s.reportedCombined i) ++
  u8 (wholeSeconds u.refreshTimer.remaining) ++ u8 (s.entriesOf i).length ++
  u8 (alertStateCode u.alert) ++ u8 (lastSentCode u.lastSent) ++
  u8 (wholeSeconds u.takeoverTimer.remaining) ++ u8 (wholeSeconds u.repeatTimer.remaining) ++
  u16 (wholeSeconds u.muteTimer.remaining)

/-! ## READ CARRIERS -/

/-- One place of the carrier table: seven bytes, all 0 for an empty place; the age in whole seconds, rounded down (R94). -/
def placeBytes : Option CarrierEntry → List Byte
  | none => u8 0 ++ u8 0 ++ u16 0 ++ u8 0 ++ u16 0
  | some e =>
    u8 e.station ++ u8 e.slot.val ++ u16 e.holding ++
    u8 (flagBit 0 e.uncertain + flagBit 1 (decide (e.band = .stale))) ++ u16 (e.age / 1000000)

/-- The 224-byte reply of READ CARRIERS. -/
def State.carriersReply (s : State) : List Byte := s.carriers.toList.flatMap placeBytes

end Sys2Proof.Machine
end

