-- ==== Sys2Proof/Machine/PortControl.lean ====
section
/-! DEFINITION. The commissioning port (chapter 9) with STORE and START (chapter 10): selection, command bytes, parameter
bytes, window writes, captures and reads. A command row of the table is that command's byte at the port (R150); its
parameters follow as PARAMETER_BYTE commands (R151). -/

namespace Sys2Proof.Machine

open Sys2Proof.Config

/-! ## Bytes out (R149) -/

/-- The command codes (section 12.2). -/
def commandCode : PortCommand → Nat
  | .setStation => 16
  | .setLink => 17
  | .setNeighbours => 18
  | .writeSlots => 19
  | .writeLanes => 20
  | .captureZero => 24
  | .captureSpan => 25
  | .store => 28
  | .start => 29
  | .restart => 30
  | .readStatus => 32
  | .readLane => 33
  | .readSlot => 34
  | .readCarriers => 35

/-- A code of the command table (section 12.2). -/
def knownCode (n : Nat) : Bool := [16, 17, 18, 19, 20, 24, 25, 28, 29, 30, 32, 33, 34, 35].contains n

/-- The parameter bytes that select a read's reply (section 12.2). -/
def selecting : PortCommand → Nat
  | .readLane | .readSlot => 1
  | _ => 0

/-- The outgoing byte as a byte begins: the reply's next byte, 0 after its last, else the last result code (R149). -/
def Port.nextOut (p : Port) : Byte :=
  match p.reply, p.command with
  | some bytes, .active c =>
    if selecting c ≤ p.position then bytes.getD (p.position - selecting c) 0
    else BitVec.ofNat 8 (resultNumber p.result)
  | _, _ => BitVec.ofNat 8 (resultNumber p.result)

/-- The next outgoing byte begins. -/
def Port.beginByteOut (p : Port) : Port := { p with outgoing := p.nextOut }

/-- A falling edge of CPCLK after a rising one: CPDO changes, and after the eighth rising edge the next outgoing byte begins
(R149). -/
def Port.fall (p : Port) : Port :=
  if p.byteDue then { p.beginByteOut with fallDue := false } else { p with fallDue := false }

/-- A rising edge of CPCLK before a byte's eighth: CPDI joins the incoming byte (R148). -/
def Port.rise (p : Port) (bit : Bool) : Port :=
  { p with bitCount := p.bitCount + 1, incoming := p.incoming ++ [bit], fallDue := true }

/-- The next edge of CPCLK with the level of CPDI: a falling edge after a rising one, else a rising edge. The eighth rising edge
is the byte's command, so the clock waits for it (log 13). -/
def Port.edge (p : Port) (bit : Bool) : Port :=
  if p.fallDue then p.fall else if p.bitCount < 7 then p.rise bit else p

/-- Some edges of CPCLK, each with the level of CPDI. -/
def Port.clock (p : Port) (bits : List Bool) : Port := bits.foldl Port.edge p

/-- The port after some edges of CPCLK: they count while CPSEL is low and the part is not STARTING (R147, R148). -/
def State.clocked (s : State) (bits : List Bool) : Port :=
  if s.pins.cpselLow = true ∧ s.startUp.node ≠ .starting then s.port.clock bits else s.port

/-- A rising edge of CPCLK, and the falling edge before it where that is still to come (R148, R149). -/
def Port.shiftBit (p : Port) (bit : Bool) : Port := (if p.fallDue then p.fall else p).rise bit

/-- The bits sampled so far are a beginning of this byte, and its last bit is still to come (R148). -/
def Port.mayForm (p : Port) (b : Byte) : Bool :=
  p.incoming.isPrefixOf (byteBits b) && decide (p.incoming.length < 8)

/-- The rest of a byte up to its eighth rising edge: its remaining bits are sampled, and the bit count and the incoming byte
start again (R148). -/
def Port.shiftByte (p : Port) (b : Byte) : Port :=
  { ((byteBits b).drop p.incoming.length).foldl Port.shiftBit p with bitCount := 0, incoming := [] }

/-- A byte at the port, formed from the bits sampled so far and those that its command gives up to the eighth rising edge: it is
shifted, and then taken. Bits sampled otherwise are of another byte, whose eighth edge this command is not (R148, logs 1 and
13). -/
def State.takeByte (s : State) (b : Byte) (body : State → State) : State :=
  if s.pins.cpselLow = true ∧ s.startUp.node ≠ .starting ∧ s.port.mayForm b = true then
    body { s with port := s.port.shiftByte b }
  else s

/-! ## Command bytes (R150) -/

/-- A command in progress is still waiting for parameter bytes: it has not completed (R150). -/
def Port.waiting (p : Port) : PortCommand → Bool
  | .writeSlots | .writeLanes => decide (p.params.length < 2) || !p.recordBuffer.isEmpty
  | .readLane | .readSlot => p.reply.isNone
  | .readStatus | .readCarriers | .store | .start | .restart => false
  | .setStation | .setLink | .setNeighbours | .captureZero | .captureSpan => true

/-- No command in progress; the parameters, the partial record and the reply dropped. -/
def Port.idle (p : Port) : Port := { p with command := .none, params := [], recordBuffer := [], reply := none }

/-- The first step at a command byte: a command still waiting is discarded as INCOMPLETE, a completed read ends (R150). -/
def State.endPrevious (s : State) : State :=
  let s1 : State := { s with port := s.port.idle }
  match s.port.command with
  | .active c => if s.port.waiting c then s1.setResult .incomplete (commandCode c) else s1
  | _ => s1

/-- A command refused at its command byte: its parameters will be absorbed (R150). -/
def State.ignore (s : State) (code : ResultCode) (detail : Nat) : State :=
  State.setResult { s with port := { s.port with command := .ignoring } } code detail

/-- The commands that write, and STORE, START and the captures: refused in RUN (R150). -/
def configuringOnly : PortCommand → Bool
  | .readStatus | .readLane | .readSlot | .readCarriers | .restart => false
  | _ => true

/-- A command byte of a known command: the previous command ends, and the byte is refused or taken (R150). -/
def State.takeCommand (s : State) (c : PortCommand) (body : State → State) : State :=
  s.takeByte (BitVec.ofNat 8 (commandCode c)) fun s =>
    let s1 := s.endPrevious
    if s1.port.operation ≠ .none ∧ c ≠ .readStatus then s1.ignore .busy 0
    else if s1.startUp.node = .run ∧ configuringOnly c = true then s1.ignore .refusedState 0
    else body s1

/-- A command with parameters is in progress at position 0 (R150). -/
def State.beginCommand (c : PortCommand) (s : State) : State :=
  { s with port :=
    { s.port with command := .active c, position := 0, params := [], recordBuffer := [], recordRefused := false } }

/-- A read without a selector completes at its command byte with its reply (R163). -/
def State.beginReply (c : PortCommand) (reply : List Byte) (s : State) : State :=
  { s with port := { s.port with command := .active c, position := 0, reply := some reply } }

/-! ## Parameter bytes (R151) -/

/-- A command with parameters has completed: its result is set and no command is in progress (R151). -/
def State.complete (s : State) (code : ResultCode) (detail : Nat) : State :=
  State.setResult { s with port := { s.port with command := .none, params := [] } } code detail

/-- A parameter byte out of range ends its command (R151). -/
def State.refuse (s : State) (detail : Nat) : State :=
  State.setResult { s with port := { s.port with command := .ignoring, params := [] } } .refusedRange detail

/-- A parameter byte kept until its command completes. -/
def State.keep (s : State) (params : List Byte) : State := { s with port := { s.port with params := params } }

/-- SET STATION's parameter (R153). -/
def State.paramSetStation (s : State) (b : Byte) : State :=
  if validStation b.toNat then
    State.complete
      { s with working :=
        { s.working with
          station := b.toNat, neighbours := s.working.neighbours.filter fun n => decide (n ≠ b.toNat) } } .ok 0
  else s.refuse 0

/-- The bit rate of a bit rate code (section 12.2). -/
def bitRateOf (b : Byte) : Option BitRate := if b = 1 then some .k50 else if b = 2 then some .k100 else none

/-- SET LINK's parameters (R154). -/
def State.paramSetLink (s : State) (params : List Byte) : State :=
  match params with
  | [code] => if bitRateOf code = none then s.refuse 0 else s.keep params
  | [code, window, level] =>
    State.complete
      { s with working :=
        { s.working with
          bitRate := (bitRateOf code).getD s.working.bitRate
          matchWindow := clampNat 5 120 window.toNat
          shockLevel := clampNat 1 4 level.toNat } } .ok 0
  | _ => s.keep params

/-- SET NEIGHBOURS' parameters (R155). -/
def State.paramSetNeighbours (s : State) (params : List Byte) : State :=
  match params with
  | [] => s
  | count :: stations =>
    if 4 < count.toNat then s.refuse 0
    else if stations.length = count.toNat then
      State.complete
        { s with working := { s.working with neighbours := filterNeighbours s.working.station stations } } .ok 0
    else s.keep params

/-- A capture command completes: it fails at once in supply hold, or its operation begins (R159). -/
def State.beginCapture (s : State) (op : Operation) (l : Lane) (load : Nat) : State :=
  if s.frontEnd.supplyHold then s.complete .captureFailed l.number
  else
    State.complete
      { s with port :=
        { s.port with
          operation := op, capture := some { lane := l, load := load, samples := 0, sum := 0 } } } .busy 0

/-- CAPTURE ZERO's parameter (R159). -/
def State.paramCaptureZero (s : State) (b : Byte) : State :=
  match Lane.ofNumber b.toNat with
  | none => s.refuse 0
  | some l => s.beginCapture .captureZero l 0

/-- CAPTURE SPAN's parameters: the lane, then the load in three bytes, judged whole and refused with detail 1 (R159,
log 26). -/
def State.paramCaptureSpan (s : State) (params : List Byte) : State :=
  match params with
  | [] => s
  | lane :: load =>
    match Lane.ofNumber lane.toNat with
    | none => s.refuse 0
    | some l =>
      if load.length = 3 then
        if 100 ≤ fieldNat load ∧ fieldNat load ≤ 99999 then s.beginCapture .captureSpan l (fieldNat load)
        else s.refuse 1
      else s.keep params

/-- READ LANE's selector (R163). -/
def State.paramReadLane (s : State) (b : Byte) : State :=
  match Lane.ofNumber b.toNat with
  | none => s.refuse 0
  | some l => State.setResult { s with port := { s.port with reply := some (s.laneReply l) } } .ok 0

/-- READ SLOT's selector (R163). -/
def State.paramReadSlot (s : State) (b : Byte) : State :=
  if h : b.toNat < 8 then
    State.setResult { s with port := { s.port with reply := some (s.slotReply ⟨b.toNat, h⟩) } } .ok 0
  else s.refuse 0

/-! ## Window writes (R156 to R158) -/

/-- A window write's index bytes over a range of indices (R156). -/
def State.paramWindow (s : State) (lo hi : Nat) (params : List Byte) : State :=
  match params with
  | [first] => if lo ≤ first.toNat ∧ first.toNat ≤ hi then s.keep params else s.refuse 0
  | [first, last] =>
    if lo ≤ last.toNat ∧ last.toNat ≤ hi ∧ first.toNat ≤ last.toNat then
      State.setResult
        { s with port := { s.port with params := params, windowCounter := first.toNat, recordBuffer := [] } } .ok 0
    else s.refuse 1
  | _ => s

/-- The index after a record: the next one, or the start index after the end index (R156). -/
def Port.nextIndex (p : Port) : Nat :=
  if p.windowCounter = (p.params.getD 1 0).toNat then (p.params.getD 0 0).toNat else p.windowCounter + 1

/-- A record has been checked: the buffer is emptied and the counter moves (R156). -/
def State.nextRecord (s : State) : State :=
  { s with port := { s.port with recordBuffer := [], windowCounter := s.port.nextIndex } }

/-- A slot record applied to the slot of the window counter (R158). -/
def State.applySlotRecord (s : State) (bytes : List Byte) : State :=
  if h : s.port.windowCounter < 8 then
    { s with working :=
      { s.working with slots := s.working.slots.set s.port.windowCounter (slotRecordOf bytes) h } }
  else s

/-- A refused record: the result names the first refused record of the write (R156). -/
def State.refuseRecord (s : State) : State :=
  if s.port.recordRefused then s
  else State.setResult { s with port := { s.port with recordRefused := true } } .refusedRange s.port.windowCounter

/-- A lane record checked and applied to the lane of the window counter. The front end takes its lanes, and the comparator's,
from it at the next round start (R157, `State.beginRound`). -/
def State.applyLaneRecord (s : State) (bytes : List Byte) : State :=
  match Lane.ofNumber s.port.windowCounter with
  | none => s
  | some l =>
    match laneRecordOf (laneOf s.working l) bytes with
    | some lr => { s with working := { s.working with lanes := s.working.lanes.set l.idx.val lr l.idx.isLt } }
    | none => s.refuseRecord

/-- A record byte of a window write: a whole record is applied and the counter moves (R156). -/
def State.paramRecord (s : State) (size : Nat) (apply : State → List Byte → State) (b : Byte) : State :=
  let buffer := s.port.recordBuffer ++ [b]
  if buffer.length = size then (apply s buffer).nextRecord
  else { s with port := { s.port with recordBuffer := buffer } }

/-- A parameter byte of a command in progress (R151). A completed read takes the byte for its position alone (R149). -/
def State.takeParameter (s : State) (c : PortCommand) (b : Byte) : State :=
  let params := s.port.params ++ [b]
  match c with
  | .setStation => s.paramSetStation b
  | .setLink => s.paramSetLink params
  | .setNeighbours => s.paramSetNeighbours params
  | .writeSlots =>
    if s.port.params.length < 2 then s.paramWindow 0 7 params else s.paramRecord 8 State.applySlotRecord b
  | .writeLanes =>
    if s.port.params.length < 2 then s.paramWindow 1 4 params else s.paramRecord 16 State.applyLaneRecord b
  | .captureZero => s.paramCaptureZero b
  | .captureSpan => s.paramCaptureSpan params
  | .readLane => if s.port.reply.isSome then s else s.paramReadLane b
  | .readSlot => if s.port.reply.isSome then s else s.paramReadSlot b
  | .readStatus | .readCarriers | .store | .start | .restart => s

/-! ## The commands -/

/-- The bits of an incomplete byte are discarded; command, position, record and reply stay, and no byte begins until CPSEL goes
low again (R148, R149). -/
def Port.discardBits (p : Port) : Port := { p with incoming := [], bitCount := 0, fallDue := false }

/-- PORT_SELECT: CPSEL goes low, and the first outgoing byte begins once the port works (R147 to R149). -/
def execPortSelect (s : State) : Result :=
  takeEvent s fun s =>
    if s.pins.cpselLow then s
    else
      let s1 : State := { s with pins := { s.pins with cpselLow := true }, port := s.port.discardBits }
      if s.startUp.node = .starting then s1 else { s1 with port := s1.port.beginByteOut }

/-- PORT_DESELECT: CPSEL goes high; the bits clocked in since the last byte are discarded, or the command pauses (R148). -/
def execPortDeselect (clocked : List Bool) (s : State) : Result :=
  takeEvent s fun s =>
    if s.pins.cpselLow then
      { s with
        pins := { s.pins with cpselLow := false }
        port :=
          (if s.startUp.node = .starting then s.port
            else (clocked.drop s.port.incoming.length).foldl Port.shiftBit s.port).discardBits }
    else s

/-- PARAMETER_BYTE: taken at the command's position, or ignored with no command in progress (R151). -/
def execParameterByte (b : Byte) (s : State) : Result :=
  takeEvent s fun s =>
    s.takeByte b fun s =>
      match s.port.command with
      | .active c => State.takeParameter { s with port := { s.port with position := s.port.position + 1 } } c b
      | _ => s

/-- UNKNOWN_COMMAND: BUSY while an operation runs, REFUSED_RANGE otherwise; the parameters that follow are ignored (R150).
The code is the byte taken; it names no command. -/
def execUnknownCommand (code : Byte) (s : State) : Result :=
  takeEvent s fun s =>
    s.takeByte code fun s =>
      let s1 := s.endPrevious
      if s1.port.operation ≠ .none then s1.ignore .busy 0 else s1.ignore .refusedRange 0

/-- SET_STATION: the command byte; R153 at its parameter. -/
def execSetStation (s : State) : Result :=
  takeEvent s fun s => s.takeCommand .setStation (State.beginCommand .setStation)

/-- SET_LINK: the command byte; R154 at its third parameter. -/
def execSetLink (s : State) : Result := takeEvent s fun s => s.takeCommand .setLink (State.beginCommand .setLink)

/-- SET_NEIGHBOURS: the command byte; R155 at its last parameter. -/
def execSetNeighbours (s : State) : Result :=
  takeEvent s fun s => s.takeCommand .setNeighbours (State.beginCommand .setNeighbours)

/-- WRITE_SLOTS: the command byte; R156 and R158 at its parameters. -/
def execWriteSlots (s : State) : Result :=
  takeEvent s fun s => s.takeCommand .writeSlots (State.beginCommand .writeSlots)

/-- WRITE_LANES: the command byte; R156 and R157 at its parameters. -/
def execWriteLanes (s : State) : Result :=
  takeEvent s fun s => s.takeCommand .writeLanes (State.beginCommand .writeLanes)

/-- CAPTURE_ZERO: the command byte; R159 at its parameter. -/
def execCaptureZero (s : State) : Result :=
  takeEvent s fun s => s.takeCommand .captureZero (State.beginCommand .captureZero)

/-- CAPTURE_SPAN: the command byte; R159 at its fourth parameter. -/
def execCaptureSpan (s : State) : Result :=
  takeEvent s fun s => s.takeCommand .captureSpan (State.beginCommand .captureSpan)

/-- A STORE begins, unless supply hold is in force: the marker INVALID, the phase MARKER CLEARED, in which nothing of the image
has been written (R162, R167). -/
def State.beginStore (s : State) : State :=
  if s.frontEnd.supplyHold then s.setResult .storeFailed 0
  else
    State.setResult
      { s with
        startUp := { s.startUp with markerValid := false, storePhase := .markerCleared }
        port := { s.port with operation := .store } } .busy 0

/-- STORE (R162, R167). -/
def execStore (s : State) : Result := takeEvent s fun s => s.takeCommand .store State.beginStore

/-- STORE_COMPLETE: every item has been written; the marker VALID, the result OK (R167). A STORE that has been stopped does not
complete (R168). -/
def execStoreComplete (s : State) : Result :=
  takeEvent s fun s =>
    if s.port.operation = .store ∧ s.startUp.storePhase ≠ .none then
      State.setResult
        { s with
          startUp := { s.startUp with image := s.working, markerValid := true, storePhase := .none }
          port := { s.port with operation := .none } } .ok 0
    else s

/-- START validates the working copy and enters RUN, or reports the first failing reason (R162, R169, R170). -/
def State.beginRun (s : State) : State :=
  match validate s.working with
  | none => (s.enterRun s.working).setResult .ok 0
  | some reason => s.setResult .refusedCheck reason

/-- START (R162, R169, R170). -/
def execStart (s : State) : Result := takeEvent s fun s => s.takeCommand .start State.beginRun

/-- RESTART: a restart with cause COMMAND, at the command byte (R162, R164). -/
def execRestart (s : State) : Result :=
  takeEvent s fun s => s.takeCommand .restart fun s => s.restart .command

/-- READ_STATUS: the reply is built at the command byte; the last result is left as it is (R152, R163). -/
def execReadStatus (s : State) : Result :=
  takeEvent s fun s => s.takeCommand .readStatus fun s => s.beginReply .readStatus s.statusReply

/-- READ_LANE: the command byte; the reply is built at its selector (R163). -/
def execReadLane (s : State) : Result := takeEvent s fun s => s.takeCommand .readLane (State.beginCommand .readLane)

/-- READ_SLOT: the command byte; the reply is built at its selector (R163). -/
def execReadSlot (s : State) : Result := takeEvent s fun s => s.takeCommand .readSlot (State.beginCommand .readSlot)

/-- READ_CARRIERS: the reply is built at the command byte, with result OK (R152, R163). -/
def execReadCarriers (s : State) : Result :=
  takeEvent s fun s =>
    s.takeCommand .readCarriers fun s => (s.beginReply .readCarriers s.carriersReply).setResult .ok 0

end Sys2Proof.Machine
end

