-- ==== Sys2Proof/Machine/LinkControl.lean ====
section
/-! DEFINITION. The link controller (chapter 7) and the queue's hand-over to it (R136, R143): building a frame, starting
it, and each way in which its transmission ends; idle, framing errors and dropped frames.

A command that stands for an event on the line asserts what the line carried: that a bit was read back differently, that a
frame came whole (log 1). What the node itself keeps, its receiver, its recessive count and its own frame's progress, must
allow the event. -/

namespace Sys2Proof.Machine

open Sys2Proof.Config

/-! ## The queue's order (R143) -/

/-- A request goes before another: lower kind code, then earlier age, then lower key (R143). -/
def Request.goesBefore (r q : Request) : Bool :=
  decide (keyKind r.key < keyKind q.key) ||
    (decide (keyKind r.key = keyKind q.key) &&
      (decide (r.age < q.age) || (decide (r.age = q.age) && decide (keyOrder r.key < keyOrder q.key))))

/-- The first WAITING request in the queue's order (R143). -/
def firstWaiting : List Request → Option Request
  | [] => none
  | r :: rest =>
    match firstWaiting rest with
    | none => if r.inFlight then none else some r
    | some q => if r.inFlight then some q else if q.goesBefore r then some q else some r

/-! ## Building a frame (R136) -/

/-- The status an ALERT request resolves to, or none when it is discarded unsent (R108). -/
def alertResolution (u : SlotUnit) : Option AlertStatus :=
  match u.alert, u.lastSent with
  | .raised, _ => some .raised
  | .normal, .raised | .normal, .muted => some .cleared
  | .muted, .raised => some .muted
  | _, _ => none

/-- The restart byte of a PRESENCE (section 12.1). -/
def restartByteOf (flag : Bool) (cause : RestartCause) : Byte := BitVec.ofNat 8 (flagBit 7 flag + causeCode cause)

/-- The payload built for a request at its transmission start; none when an ALERT is discarded unsent (R59, R93, R108, R112,
R136, R146). An OFFER's window is 1 s at the least: one is built only while its entry is there, and where the expiry is
overdue (log 2) it has not ended yet (R59). An OFFER whose entry has left does not arise, since its request leaves with it
(R141), nor does a CLAIM without its type (log 19). -/
def State.build (s : State) (r : Request) : Option Payload :=
  match r.key with
  | .shock => some .shock
  | .claim station tag => r.claimType.map fun type => .claim (BitVec.ofNat 8 station) tag (claimTypeCode type)
  | .offer tag =>
    (s.pendingOf tag).map fun e =>
      .offer e.tag (BitVec.ofNat 24 e.article) (BitVec.ofNat 16 e.count) (BitVec.ofNat 24 e.grams)
        (BitVec.ofNat 16 e.tol) (BitVec.ofNat 8 (max 1 (wholeSeconds e.remaining)))
  | .alert i =>
    (alertResolution (s.slot i)).map fun status =>
      .alert (BitVec.ofNat 24 (slotOf s.running i).article) (alertStatusCode status)
        (BitVec.ofNat 16 (min 65535 (s.combined i))) (BitVec.ofNat 16 (s.slot i).holding)
        (BitVec.ofNat 16 (slotOf s.running i).reorderPoint)
  | .notice l =>
    some (.notice (BitVec.ofNat 8 l.number) (BitVec.ofNat 24 (articleOfLane s.running l))
      (BitVec.ofNat 8 (s.lane l).notice.flags))
  | .stock i =>
    some (.stock (BitVec.ofNat 24 (slotOf s.running i).article) (BitVec.ofNat 16 (s.slot i).holding)
      (BitVec.ofNat 8 (flagBit 0 (s.slot i).uncertain)))
  | .presence =>
    some (.presence (restartByteOf s.queue.restartFlag s.startUp.cause) (BitVec.ofNat 8 s.link.health))

/-- The node's station character (R136). -/
def State.ownStation (s : State) : Byte := BitVec.ofNat 8 s.running.station

/-! ## Transmission start (R124, R143) -/

/-- A pending-out entry's offer status changed from one value to another (R59). -/
def State.moveOffer (s : State) (tag : Byte) (old new : OfferStatus) : State :=
  s.setPendingOut (s.matcher.pendingOut.map fun e => if e.tag = tag ∧ e.status = old then { e with status := new } else e)

/-- A request's owner is told of its transmission start; only an OFFER's keeps a status (R59). -/
def State.startOwner (s : State) (key : RequestKey) : State :=
  match key with
  | .offer tag => s.moveOffer tag .queued .sending
  | _ => s

/-- The link as it starts driving the first start bit of a frame; a driver that a dominant timeout has stopped stays released
(R117, R124, R127). -/
def Link.launch (k : Link) (flight : Flight) : Link :=
  if k.driverInhibited then { k with flight := some flight, driver := .released, dominantTimer := 0, ownDelivery := none }
  else
    { k with
      flight := some flight, driver := .driving, dominantTimer := 0, ownDelivery := none, recessiveCount := 0,
      spacing := false, receiver := .inCharacter, buffer := [], bits := [] }

/-- The request of a key becomes IN FLIGHT. -/
def markInFlight (key : RequestKey) (q : List Request) : List Request :=
  q.map fun r => if r.key = key then { r with inFlight := true } else r

/-- A frame starts for a request (R143). -/
def State.launch (s : State) (r : Request) (p : Payload) : State :=
  State.startOwner
    { s with
      queue := { s.queue with requests := markInFlight r.key s.queue.requests }
      link := s.link.launch
        { frame := { station := s.ownStation, payload := p }, key := r.key, position := 0, detached := false,
          delivered := false } }
    r.key

/-- A request leaves the queue. -/
def State.dropRequest (s : State) (key : RequestKey) : State :=
  { s with queue := { s.queue with requests := s.queue.requests.filter fun r => decide (r.key ≠ key) } }

/-- The first request in order is taken until a frame is built or the queue holds none WAITING (R124, R143). -/
def State.startNext : Nat → State → State
  | 0, s => s
  | fuel + 1, s =>
    match firstWaiting s.queue.requests with
    | none => s
    | some r =>
      match s.build r with
      | some p => s.launch r p
      | none => State.startNext fuel (s.dropRequest r.key)

/-- The line has been idle long enough for a start: the receiver is SEARCHING, and the recessive count has reached 11, or 15
when the spacing flag is set (R120, R124). -/
def Link.idleForStart (k : Link) : Bool :=
  decide (k.receiver = .searching) && decide ((if k.spacing then 15 else 11) ≤ k.recessiveCount)

/-- The conditions of a transmission start (R124). -/
def State.mayStart (s : State) : Bool :=
  decide (s.link.state = .active) && !s.frontEnd.supplyHold && s.link.flight.isNone && s.link.idleForStart &&
    !s.queue.requests.isEmpty

/-- TRANSMISSION_START (R124, R136, R143). -/
def execTransmissionStart (s : State) : Result :=
  takeEvent s fun s =>
    if s.mayStart then State.startNext s.queue.requests.length s else s

/-! ## The end of a transmission (R125 to R131, R140, R143) -/

/-- The request of a key after its frame was lost or failed: WAITING with its age, its renewal mark removed (R140). -/
def requestFailed (key : RequestKey) (q : List Request) : List Request :=
  q.map fun r => if r.key = key then { r with inFlight := false, renewal := none } else r

/-- What a lost or failed transmission means for the queue and the matcher; a detached frame belongs to no request (R59,
R140, R141). -/
def State.flightFailed (s : State) (f : Flight) : State :=
  if f.detached then s
  else
    let s1 : State := { s with queue := { s.queue with requests := requestFailed f.key s.queue.requests } }
    match f.key with
    | .offer tag => s1.moveOffer tag .sending .queued
    | _ => s1

/-- A failure counted: 4 more, and QUARANTINE at 32 or more (R130, R131). -/
def Link.countFailure (k : Link) : Link :=
  let h := k.health + 4
  if 32 ≤ h ∧ k.state = .active then
    { k with health := h, state := .quarantine, quarantineTimer := .running (sec 30) }
  else { k with health := h }

/-- Whole recessive bit times on the line just before a bit time of the node's own frame (R120). -/
def recessiveBefore (chars : List Byte) (position : Nat) : Nat :=
  ((List.range position).reverse.takeWhile (bitAt chars)).length

/-- The link after its transmission has stopped at a bit: the driver released, no frame in flight (R125, R126). -/
def Link.released (k : Link) : Link := { k with driver := .released, flight := none, dominantTimer := 0 }

/-- The receiver starts its search: the frame buffer emptied. DESIGN CHOICE (log 32): R121 empties the buffer at the first
dominant edge of the next frame and says nothing of a complete one's characters until then; here it is empty from the
completion on. -/
def Link.seek (k : Link) : Link := { k with receiver := .searching, buffer := [], bits := [] }

/-- The receiver waits for idle, its frame buffer discarded (R121). -/
def Link.awaitIdle (k : Link) : Link := { k with receiver := .waitingForIdle, buffer := [], bits := [] }

/-- The receiver goes on in a character of the node's own frame, whose bits so far it has read as they were sent, but for the
last one (R121, R125, R126). -/
def Link.readOn (k : Link) (chars : List Byte) (char bit : Nat) (read : Bool) : Link :=
  { k with
    receiver := .inCharacter
    buffer := chars.take char
    bits := (List.range bit).map (fun j => bitAt chars (10 * char + j)) ++ [read] }

/-- A bit of the node's own frame is being sent: none before it is left, and it falls within the tick that the frame's progress
stands at (log 2). -/
def Flight.atBit (f : Flight) (rate : BitRate) (char bit : Nat) : Bool :=
  decide (f.position ≤ 10 * char + bit) && decide (10 * char + bit < f.position + bitsPerTick rate)

/-- The own frame has been sent to the end of its last stop bit (R128). -/
def Flight.whole (f : Flight) : Bool := decide (f.position = 10 * (frameChars f.frame).length)

/-- LOST_ARBITRATION: the driver is released, the receiver goes on with the line's frame, the request waits (R125). -/
def execLostArbitration (char bit : Nat) (s : State) : Result :=
  takeEvent s fun s =>
    match s.link.flight with
    | none => s
    | some f =>
      let chars := frameChars f.frame
      if losesArbitrationAt chars char bit && f.atBit s.running.bitRate char bit then
        State.flightFailed
          { s with
            link :=
              { s.link.released.readOn chars char bit false with driverInhibited := false, recessiveCount := 0 } } f
      else s

/-- The link after a readback failure at a bit of its frame: a start bit read recessive is a false start, a stop bit read
dominant a framing error; otherwise the receiver goes on in the character (R121, R126, R127, R130). A driver that has been kept
released since the frame began has put nothing on the line: the receiver and the recessive count are left where the line has
put them (R120, R121, R127). -/
def Link.readbackFailed (k : Link) (chars : List Byte) (char bit : Nat) : Link :=
  let position := 10 * char + bit
  let silent := k.driverInhibited && !sentRecessiveBy chars position
  let broken := decide (bit = 0) || decide (bit = 9)
  let reading :=
    if silent then k else if broken then k.awaitIdle else k.readOn chars char bit (!bitAt chars position)
  Link.countFailure
    { reading.released with
      driverInhibited := silent
      recessiveCount :=
        if silent then k.recessiveCount
        else if bit = 0 ∨ bitAt chars position = true then 0
        else min 15 (recessiveBefore chars position) }

/-- READBACK_FAILURE: the frame ends, the health counter rises by 4, the request stays queued (R125, R126, R130, R131). -/
def execReadbackFailure (char bit : Nat) (s : State) : Result :=
  takeEvent s fun s =>
    match s.link.flight with
    | none => s
    | some f =>
      let chars := frameChars f.frame
      if failsReadbackAt chars char bit && f.atBit s.running.bitRate char bit then
        State.flightFailed { s with link := s.link.readbackFailed chars char bit } f
      else s

/-- DOMINANT_TIMEOUT: a driver that drives dominant is released, which counts as a readback failure; it stays released until a
recessive bit is next sent. More than 12 dominant bit times hold a dominant stop bit, so the receiver waits for idle. A driver
that is released, or has been kept released, has no timeout, nor has a frame that has ended whole (R121, R127). -/
def execDominantTimeout (s : State) : Result :=
  takeEvent s fun s =>
    match s.link.flight with
    | none => s
    | some f =>
      if s.link.driver = .driving ∧ f.whole = false then
        State.flightFailed
          { s with
            link := Link.countFailure
              { s.link.released.awaitIdle with driverInhibited := true, recessiveCount := 0 } } f
      else s

/-- The queue after a transmission end: the request leaves, or stays WAITING with its renewal instant as its age (R140). -/
def requestSent (key : RequestKey) (q : List Request) : List Request :=
  q.filterMap fun r =>
    if r.key = key then
      r.renewal.map fun t => { r with age := t, inFlight := false, renewal := none }
    else some r

/-- The last-sent status that the status of an ALERT frame stands for (R109). -/
def lastSentOf : AlertStatus → LastSent
  | .raised => .raised
  | .cleared => .none
  | .muted => .muted

/-- The alert unit takes the transmission end of a slot's ALERT frame (R103, R109). -/
def State.alertSent (s : State) (i : Slot) (status : AlertStatus) : State :=
  let u := s.slot i
  let s1 := s.setSlot i { u with
    lastSent := lastSentOf status
    repeatTimer := if status = .raised ∧ u.alert = .raised then .running (sec 60) else u.repeatTimer }
  if u.alert = .normal ∧ status ≠ .cleared then s1.place (.alert i) else s1

/-- The matcher takes the transmission end of a CLAIM (R65). -/
def State.claimSent (s : State) (station : Nat) (tag : Byte) : State :=
  s.setHeard (s.matcher.heard.map fun e =>
    if e.station = station ∧ e.tag = tag ∧ e.claimStatus = .queued then { e with claimStatus := .sent } else e)

/-- The owner of a request takes the transmission end of its frame (R143). A detached OFFER or CLAIM has no entry left to
update (R59, R65, R141). -/
def State.tellOwner (s : State) (f : Flight) : State :=
  match f.key, f.frame.payload with
  | .shock, _ => { s with frontEnd := { s.frontEnd with spacingTimer := .running (ms 1000) } }
  | .claim station tag, _ => if f.detached then s else s.claimSent station tag
  | .offer tag, _ => if f.detached then s else s.moveOffer tag .sending .sent
  | .alert i, .alert _ status _ _ _ =>
    match alertStatusOf status with
    | some st => s.alertSent i st
    | none => s
  | .alert _, _ => s
  | .notice l, _ =>
    if (s.lane l).notice.any then s.setNotice l { (s.lane l).notice with timer := .running (sec 60) } else s
  | .stock i, _ => s.setSlot i { s.slot i with refreshTimer := .running (sec 120) }
  | .presence, .presence restartByte _ =>
    if restartFlagOf restartByte then { s with queue := { s.queue with restartFlag := false } } else s
  | .presence, _ => s

/-- The link at a transmission end: the driver released, the health counter 1 less, the spacing flag set, the frame complete at
the receiver and its buffer emptied (R122, R128, R130; DESIGN CHOICE, log 32). -/
def Link.transmitted (k : Link) (f : Flight) : Link :=
  { k.released.seek with
    driverInhibited := false
    health := k.health - 1
    spacing := true
    recessiveCount := recessiveAfter (frameChars f.frame)
    ownDelivery := if f.delivered then none else some f.frame }

/-- TRANSMISSION_END: the frame has ended whole, and the request's owner takes the end (R128, R140, R143). The frame's own
reception is a command of its own (R123). -/
def execTransmissionEnd (s : State) : Result :=
  takeEvent s fun s =>
    match s.link.flight with
    | none => s
    | some f =>
      if f.whole then
        State.tellOwner
          { s with
            link := s.link.transmitted f
            queue :=
              if f.detached then s.queue else { s.queue with requests := requestSent f.key s.queue.requests } } f
      else s

/-! ## Link states (R131, R132) -/

/-- QUARANTINE_EXPIRY: the timer STOPPED, the health counter 0, the link JOINING with the recessive count 0 (R131, R132). -/
def execQuarantineExpiry (s : State) : Result :=
  takeEvent s fun s =>
    if s.link.state = .quarantine ∧ s.link.quarantineTimer.due = true then
      { s with
        link := { s.link with state := .joining, health := 0, quarantineTimer := .stopped, recessiveCount := 0 } }
    else s

/-- LINK_BECOMES_ACTIVE: the recessive count first reaches 11 in JOINING; the stock view starts the settling-in timer at the
first such entry (R90, R132). The same idle takes the receiver to SEARCHING (R121). -/
def execLinkBecomesActive (s : State) : Result :=
  takeEvent s fun s =>
    if s.link.state = .joining ∧ s.link.flight = none ∧ 11 ≤ s.link.recessiveCount then
      { s with
        link := { s.link.seek with state := .active }
        settlingIn := match s.settlingIn with
          | .notStarted => .running (sec 35)
          | other => other }
    else s

/-- LINE_IDLE: the recessive count has reached 11, a receiver in WAITING FOR IDLE or BETWEEN CHARACTERS returns to SEARCHING,
and an incomplete frame is discarded (R121). So does one that a lost arbitration or a failure left in a character which the line
has ended since (log 15). No idle arises in OFF, nor inside the node's own frame (R120). -/
def execLineIdle (s : State) : Result :=
  takeEvent s fun s =>
    if s.link.state ≠ .off ∧ s.link.flight = none ∧ 11 ≤ s.link.recessiveCount then
      { s with link := s.link.seek }
    else s

/-- The receiver takes characters that another station sends: not in OFF, nor in WAITING FOR IDLE, nor while the node's own
frame is in flight (R121). -/
def Link.listens (k : Link) : Bool :=
  decide (k.state ≠ .off) && k.flight.isNone && decide (k.receiver ≠ .stopped) && decide (k.receiver ≠ .waitingForIdle)

/-- A receiver in BETWEEN CHARACTERS or WAITING FOR IDLE has counted 11 recessive bit times, and the idle of R121 is still to be
taken. -/
def Link.idleDue (k : Link) : Bool :=
  decide (11 ≤ k.recessiveCount) && (decide (k.receiver = .betweenCharacters) || decide (k.receiver = .waitingForIdle))

/-- The bits of the frame being received, as far as they have been sampled (R119, R121). -/
def Link.heard (k : Link) : List Bool := k.buffer.flatMap charBits ++ k.bits

/-- The receiver has sampled all ten bits of a character that ends a frame or shows an error, and the command that tells which
is still to come. -/
def Link.sampled (k : Link) : Bool := decide (10 ≤ k.bits.length)

/-- The receiver can complete a run of characters: it searches for their start, or the bits it has sampled are a beginning of
theirs, with no idle since (R121). -/
def Link.assembles (k : Link) (chars : List Byte) : Bool :=
  k.listens &&
    (decide (k.receiver = .searching) ||
      !k.idleDue && k.heard.isPrefixOf (chars.flatMap charBits) && decide (k.buffer.length < chars.length))

/-- The receiver can meet a framing error (R121, R122): a dominant stop bit, unless it has sampled a recessive one that ends the
frame; a false start at a next character; a length above 12 as the third character, its bits as far as they have been
sampled. -/
def Link.meetsError (k : Link) : FramingError → Bool
  | .stopBitDominant => k.listens && (!k.sampled || !k.bits.getLastD true)
  | .startBitRecessive => k.listens && !k.sampled
  | .lengthAbove12 length =>
    k.listens &&
      (decide (k.receiver = .searching) || decide (k.buffer.length < 2) && !k.sampled ||
        decide (k.buffer.length = 2) && k.bits.isPrefixOf (charBits length))

/-- The recessive count at an event of the receiver: what the event's last bit leaves, or as it has been counted where the ticks
have passed that bit (R120). -/
def Link.countAt (k : Link) (recessive : Nat) : Nat := if k.sampled then k.recessiveCount else recessive

/-- The recessive count at a framing error: 0 where the line was dominant at the error or in the false start; at a length
above 12 what the length character leaves (R119, R120, R122). -/
def recessiveAfterError : FramingError → Nat
  | .stopBitDominant | .startBitRecessive => 0
  | .lengthAbove12 length => trailingRecessive length

/-- FRAMING_ERROR: the frame buffer is discarded and the receiver waits for idle; no other block is told (R119, R121, R122). -/
def execFramingError (cause : FramingError) (s : State) : Result :=
  takeEvent s fun s =>
    if s.link.meetsError cause then
      { s with
        link := { s.link.awaitIdle with
          recessiveCount := s.link.countAt (recessiveAfterError cause), spacing := false } }
    else s

/-- The link at the end of a complete frame of another station: the receiver SEARCHING, the recessive count what the last
character leaves (R120, R122), the frame buffer emptied (DESIGN CHOICE, log 32). -/
def Link.completed (k : Link) (chars : List Byte) : Link :=
  { k.seek with recessiveCount := k.countAt (recessiveAfter chars), spacing := false }

/-- INVALID_FRAME_DROPPED: a complete frame that fails the tests of R122 is dropped silently; SEARCHING (R122). -/
def execInvalidFrameDropped (frame : List Byte) (s : State) : Result :=
  takeEvent s fun s =>
    if s.link.assembles frame then { s with link := s.link.completed frame } else s

/-- PRESENCE_TIMER_EXPIRY: a PRESENCE request, and the timer at 10 s again (R145). -/
def execPresenceTimerExpiry (s : State) : Result :=
  takeEvent s fun s =>
    if s.queue.presenceTimer.due then
      State.place { s with queue := { s.queue with presenceTimer := .running (sec 10) } } .presence
    else s

end Sys2Proof.Machine
end

