-- ==== Sys2Proof/Machine/Receptions.lean ====
section
/-! DEFINITION. Receptions: what the link does with a valid frame (R123, R134), its dispatch in three steps (R137), and what
each owner does with a frame of its kind. -/

namespace Sys2Proof.Machine

open Sys2Proof.Config

/-! ## The link's part (R120, R123, R134) -/

/-- The link at the end of a valid frame of another station, complete at its last character (R120 to R122). That the frame buffer
is emptied then, and not at the next dominant edge, is the model's choice (DESIGN CHOICE, log 32). -/
def Link.received (k : Link) (f : Frame) : Link := k.completed (frameChars f)

/-- The link is put in SILENCED; the conflict flag set, the quarantine timer STOPPED (R117, R134). -/
def Link.silence (k : Link) : Link :=
  { k.released with state := .silenced, addressConflict := true, quarantineTimer := .stopped }

/-- A valid peer frame bears this node's station number: SILENCED from JOINING, ACTIVE or QUARANTINE, nothing more in
SILENCED, and in every case not delivered (R134). The receiver has assembled the frame, so no frame of the node is in flight
(R121, log 9). -/
def State.conflict (s : State) (f : Frame) : State :=
  if s.link.assembles (frameChars f) then
    let heard := s.link.received f
    { s with link := if s.link.state = .silenced then heard else heard.silence }
  else s

/-- The frame is the node's own frame, sent to its end, whose reception is taken before its transmission end (R123, R143). -/
def Flight.isOwn (f : Frame) (fl : Flight) : Bool := decide (fl.frame = f) && !fl.delivered && fl.whole

/-- A valid frame at the receiver, and the dispatch that a delivered frame gets: nothing in OFF; a frame with this node's
number is its own frame or an address conflict; every other frame that the receiver has assembled is delivered (R121, R123,
R134). -/
def State.receive (s : State) (f : Frame) (dispatch : State → State) : State :=
  if s.link.state = .off then s
  else if f.station = s.ownStation then
    if s.link.flight.any (Flight.isOwn f) then
      dispatch { s with link := { s.link with flight := s.link.flight.map fun fl => { fl with delivered := true } } }
    else if s.link.ownDelivery = some f then dispatch { s with link := { s.link with ownDelivery := none } }
    else s.conflict f
  else if s.link.assembles (frameChars f) then dispatch { s with link := s.link.received f }
  else s

/-- The dispatch of a delivered frame: the refresh of the sender's entries, the owners' work, and each owed evaluation once
(R83, R137). -/
def State.dispatch (s : State) (station : Byte) (owner : State → State × List Slot) : State :=
  let refreshed := s.refreshStation station.toNat
  let worked := owner refreshed.1
  worked.1.evaluateAll (refreshed.2 ++ worked.2)

/-! ## SHOCK (R7, R27) -/

/-- A SHOCK from a neighbour holds every enabled lane for 800 ms and puts the scan mode to FAST (R7, R27). -/
def State.takeShock (station : Byte) (s : State) : State × List Slot :=
  if s.running.neighbours.contains station.toNat then ((s.holdLanes (ms 800)).enterFast, []) else (s, [])

/-! ## CLAIM (R61, R66, R67, R137) -/

/-- A CLAIM for the matcher: on an own entry (R61), a lost heard offer (R66) or a won one (R67). -/
def State.takeClaim (station offerStation tag type : Byte) (s : State) : State × List Slot :=
  if validStation station.toNat = false ∨ validStation offerStation.toNat = false ∨ claimTypeOf type = none then (s, [])
  else if offerStation = s.ownStation then
    if station = s.ownStation then (s, [])
    else
      match s.pendingOf tag with
      | some e => (s.removePending e .relocatedOut, s.slotsFor e.article)
      | none => (s, [])
  else
    match s.heardOf offerStation.toNat tag with
    | some e =>
      if station = s.ownStation then (s.forgetHeard e.station e.tag, s.slotsFor e.article)
      else (s.dropHeard e, s.slotsFor e.article)
    | none => (s, [])

/-! ## OFFER (R63, R137, R138) -/

/-- The entry of a station and tag leaves, if there is one, as an expired entry does (R63). -/
def State.replaceHeard (s : State) (station : Nat) (tag : Byte) : State × List Slot :=
  match s.heardOf station tag with
  | some e => (s.dropHeard e, s.slotsFor e.article)
  | none => (s, [])

/-- Of eight heard offers the oldest is dropped as an expired entry is (R63). -/
def State.roomForHeard (s : State) : State × List Slot :=
  match s.matcher.heard with
  | e :: rest => if 8 ≤ (e :: rest).length then (s.dropHeard e, s.slotsFor e.article) else (s, [])
  | [] => (s, [])

/-- An OFFER for the matcher (R63). -/
def State.takeOffer (station tag : Byte) (article : Article) (count : BitVec 16) (grams : BitVec 24) (tol : BitVec 16)
    (window : Byte) (s : State) : State × List Slot :=
  if validStation station.toNat = false ∨ station = s.ownStation ∨ article = 0 ∨ count = 0 ∨ window = 0 then (s, [])
  else
    let replaced := s.replaceHeard station.toNat tag
    let roomy := replaced.1.roomForHeard
    let entry : HeardOffer :=
      { station := station.toNat, tag := tag, article := article.toNat, count := count.toNat, grams := grams.toNat,
        tol := tol.toNat, remaining := sec (min 120 window.toNat), claimStatus := .none, claimType := none,
        claimLane := none }
    (roomy.1.setHeard (roomy.1.matcher.heard ++ [entry]), replaced.2 ++ roomy.2 ++ s.slotsFor article.toNat)

/-! ## HUSH (R106) -/

/-- A HUSH acts on the article slot of its article (R106). -/
def State.takeHush (article : Article) (minutes : Byte) (s : State) : State × List Slot :=
  match articleSlot s.running article.toNat with
  | none => (s, [])
  | some i =>
    let u := s.slot i
    let time := Config.minutes (min 240 minutes.toNat)
    match u.alert with
    | .normal => (s, [])
    | .muted =>
      if minutes = 0 then (s.endMute i, [i]) else (s.changeAlert i { u with muteTimer := .running time } false, [])
    | .raised | .following | .deferred =>
      if minutes = 0 then (s, []) else (s.changeAlert i (u.toMuted time) (decide (u.lastSent = .raised)), [])

/-! ## ALERT (R104, R105) -/

/-- The slot that an ALERT frame applies to, and its status (R104). -/
def State.alertApplies (s : State) (station : Byte) (article : Article) (status : Byte) : Option (Slot × AlertStatus) :=
  if station = s.ownStation ∨ validStation station.toNat = false then none
  else
    match alertStatusOf status, articleSlot s.running article.toNat with
    | some st, some i => some (i, st)
    | _, _ => none

/-- A RAISED ALERT acts on a slot: a RAISED slot yields to a lower key, a FOLLOWING slot's takeover timer restarts (R104). -/
def State.takeRaised (s : State) (i : Slot) (station : Byte) (holding : BitVec 16) : State :=
  let u := s.slot i
  match u.alert with
  | .raised =>
    if keyLower holding.toNat station.toNat u.holding s.running.station then
      s.changeAlert i { u.toFollowing with lastSent := .none } false
    else s
  | .following => s.setSlot i { u with takeoverTimer := .running (sec 150) }
  | .normal | .deferred | .muted => s

/-- An ALERT before the evaluations: a RAISED one acts, a CLEARED or MUTED one makes the slot evaluated (R104, R105). -/
def State.takeAlert (station : Byte) (article : Article) (status : Byte) (holding : BitVec 16) (s : State) :
    State × List Slot :=
  match s.alertApplies station article status with
  | none => (s, [])
  | some (i, .raised) => (s.takeRaised i station holding, [])
  | some (i, _) => (s, [i])

/-- After the evaluation that a CLEARED or MUTED ALERT made: a slot that is FOLLOWING restarts its takeover timer; while the
settling-in period has not ended nothing restarts (R105). -/
def State.afterAlert (station : Byte) (article : Article) (status : Byte) (s : State) : State :=
  match s.alertApplies station article status with
  | none | some (_, .raised) => s
  | some (i, _) =>
    if s.settlingIn = .ended ∧ (s.slot i).alert = .following then
      s.setSlot i { s.slot i with takeoverTimer := .running (sec 150) }
    else s

/-! ## STOCK (R85, R86) -/

/-- A STOCK for the stock view (R85, R86). -/
def State.takeStock (station : Byte) (article : Article) (holding : BitVec 16) (flags : Byte) (s : State) :
    State × List Slot :=
  if station = s.ownStation ∨ validStation station.toNat = false then (s, [])
  else
    match articleSlot s.running article.toNat with
    | none => (s, [])
    | some i => s.placeHolding station.toNat i holding.toNat (flags.getLsbD 0)

/-! ## PRESENCE (R68, R87) -/

/-- The heard offers of a station leave as expired entries do (R68). -/
def State.purgeHeard (s : State) (station : Nat) : State :=
  (s.matcher.heard.filter fun e => decide (e.station = station)).foldl State.dropHeard s

/-- The slots whose evaluation the purge of a station's heard offers owes (R68, R76). -/
def State.purgedSlots (s : State) (station : Nat) : List Slot :=
  (s.matcher.heard.filter fun e => decide (e.station = station)).flatMap fun e => s.slotsFor e.article

/-- A PRESENCE for the stock view and the matcher: with the restart flag set another station's carrier entries and heard
offers are purged, and STOCK is requested for every ready slot (R68, R87). -/
def State.takePresence (station restartByte : Byte) (s : State) : State × List Slot :=
  if restartFlagOf restartByte = false then (s, [])
  else if station = s.ownStation then (s.placeReadyStocks, [])
  else
    (((s.mapStation station.toNat fun _ => none).placeReadyStocks).purgeHeard station.toNat,
      (s.slotsWhere station.toNat fun _ => true) ++ s.purgedSlots station.toNat)

/-! ## The commands -/

/-- SHOCK_RECEPTION (R7, R27, R137). -/
def execShockReception (station : Byte) (s : State) : Result :=
  takeEvent s fun s => s.receive { station := station, payload := .shock } fun s => s.dispatch station (State.takeShock station)

/-- CLAIM_RECEPTION (R61, R66, R67, R137). -/
def execClaimReception (station offerStation offerTag claimType : Byte) (s : State) : Result :=
  takeEvent s fun s =>
    s.receive { station := station, payload := .claim offerStation offerTag claimType } fun s =>
      s.dispatch station (State.takeClaim station offerStation offerTag claimType)

/-- OFFER_RECEPTION (R63, R76, R137, R138). -/
def execOfferReception (station tag : Byte) (article : Article) (count : BitVec 16) (grams : BitVec 24) (tol : BitVec 16)
    (window : Byte) (s : State) : Result :=
  takeEvent s fun s =>
    s.receive { station := station, payload := .offer tag article count grams tol window } fun s =>
      s.dispatch station (State.takeOffer station tag article count grams tol window)

/-- HUSH_RECEPTION (R106, R107, R137, R138). -/
def execHushReception (station : Byte) (article : Article) (minutes : Byte) (s : State) : Result :=
  takeEvent s fun s =>
    s.receive { station := station, payload := .hush article minutes } fun s =>
      s.dispatch station (State.takeHush article minutes)

/-- ALERT_RECEPTION (R104, R105, R137). -/
def execAlertReception (station : Byte) (article : Article) (status : Byte) (combined holding reorderPoint : BitVec 16)
    (s : State) : Result :=
  takeEvent s fun s =>
    s.receive { station := station, payload := .alert article status combined holding reorderPoint } fun s =>
      (s.dispatch station (State.takeAlert station article status holding)).afterAlert station article status

/-- NOTICE_RECEPTION: only the refresh of the sender's carrier entries (R83, R112, R137). -/
def execNoticeReception (station lane : Byte) (article : Article) (flags : Byte) (s : State) : Result :=
  takeEvent s fun s =>
    s.receive { station := station, payload := .notice lane article flags } fun s => s.dispatch station fun s => (s, [])

/-- STOCK_RECEPTION (R83, R85, R86, R137). -/
def execStockReception (station : Byte) (article : Article) (holding : BitVec 16) (flags : Byte) (s : State) : Result :=
  takeEvent s fun s =>
    s.receive { station := station, payload := .stock article holding flags } fun s =>
      s.dispatch station (State.takeStock station article holding flags)

/-- PRESENCE_RECEPTION (R68, R83, R87, R137). -/
def execPresenceReception (station restartByte health : Byte) (s : State) : Result :=
  takeEvent s fun s =>
    s.receive { station := station, payload := .presence restartByte health } fun s =>
      s.dispatch station (State.takePresence station restartByte)

/-- ADDRESS_CONFLICT: a valid peer frame bears this node's station number (R134). -/
def execAddressConflict (p : Payload) (s : State) : Result :=
  takeEvent s fun s => s.conflict { station := s.ownStation, payload := p }

end Sys2Proof.Machine
end

