-- ==== Sys2Proof/Machine/StartUp.lean ====
section
/-! DEFINITION. The commands of start-up (chapter 10): the restarts of the supply and of RESETN, the end of a held restart,
and the start decision. -/

namespace Sys2Proof.Machine

open Sys2Proof.Config

/-- Where VDD stands at or above the restart level, against the hold level. -/
def vddOf (atHoldLevel : Bool) : VddLevel := if atHoldLevel then .atHold else .belowHold

/-- POWER_ON: VDD rises to 2.6 V or above from below 1.8 V (R164). -/
def execPowerOn (atHoldLevel : Bool) (s : State) : Result :=
  takeEvent s fun s =>
    let s1 : State :=
      { s with
        pins := { s.pins with vdd := vddOf atHoldLevel }
        startUp := { s.startUp with causeLost := false } }
    s1.restart .powerOn

/-- SUPPLY_DIP: VDD falls below 2.6 V; the restart is held (R164). A cause that arises during a held restart is recorded
too. -/
def execSupplyDip (s : State) : Result :=
  takeEvent s fun s =>
    let s1 : State :=
      { s with pins := { s.pins with vdd := if s.pins.vdd = .belowRetention then .belowRetention else .belowRestart } }
    s1.restart .supplyDip

/-- PIN: RESETN goes low; the restart is held (R164). -/
def execPin (s : State) : Result :=
  takeEvent s fun s => State.restart { s with pins := { s.pins with resetnLow := true } } .pin

/-- RETENTION_LOSS: VDD falls below 1.8 V during a held restart, and the record of the cause is lost (R164). -/
def execRetentionLoss (s : State) : Result :=
  takeEvent s fun s =>
    if s.startUp.node = .starting ∧ s.startUp.startDelay = .stopped then
      { s with
        pins := { s.pins with vdd := .belowRetention }
        startUp := { s.startUp with causeLost := true } }
    else s

/-- RESTART_RELEASE: VDD is at or above 2.6 V and RESETN is high again; the start delay starts at 25 ms. A lost cause becomes
POWER_ON (R164). -/
def execRestartRelease (atHoldLevel : Bool) (s : State) : Result :=
  takeEvent s fun s =>
    if s.startUp.node = .starting ∧ s.startUp.startDelay = .stopped then
      { s with
        pins := { s.pins with vdd := vddOf atHoldLevel, resetnLow := false }
        startUp :=
          { s.startUp with
            startDelay := .running (ms 25)
            cause := if s.startUp.causeLost then .powerOn else s.startUp.cause
            causeLost := false } }
    else s

/-- The last result at the start decision: REFUSED_CHECK with its reason when a VALID image fails validation, OK otherwise
(R147, R165). -/
def State.decisionResult (s : State) : ResultCode × Nat :=
  if s.startUp.markerValid then
    match validate s.startUp.image with
    | some reason => (.refusedCheck, reason)
    | none => (.ok, 0)
  else (.ok, 0)

/-- The working copy at entry into CONFIGURING: the image when it is valid, else the defaults (R147, R165). -/
def State.decisionCopy (s : State) : NodeConfig :=
  if s.startUp.markerValid then s.startUp.image else NodeConfig.default

/-- The start decision enters RUN: the marker VALID, CPSEL high, the image valid (R165). -/
def State.decidesRun (s : State) : Bool :=
  s.startUp.markerValid && !s.pins.cpselLow && decide (validate s.startUp.image = none)

/-- START_DECISION: the start delay expires, and the node enters CONFIGURING or RUN (R164, R165, R170). -/
def execStartDecision (s : State) : Result :=
  takeEvent s fun s =>
    if s.startUp.node = .starting ∧ s.startUp.startDelay.due = true then
      let s1 := s.enterConfiguring s.decisionCopy s.decisionResult.1 s.decisionResult.2
      if s.decidesRun then s1.enterRun s.startUp.image else s1
    else s

end Sys2Proof.Machine
end

