-- ==== Sys2Proof/Machine/Dispatch.lean ====
section
/-! DEFINITION. The effect of every command of the table, one arm per constructor of `Instr`. -/

namespace Sys2Proof.Machine

open Sys2Proof

def exec (i : Instr) (s : State) : Host.Outcome State Fault Refusal :=
  match i with
  | .roundStart => Sys2Proof.Machine.execRoundStart s
  | .excitationCheck reading => Sys2Proof.Machine.execExcitationCheck reading s
  | .sampleEvent lane raw computedFirst => Sys2Proof.Machine.execSampleEvent lane raw s computedFirst
  | .holdTimerExpiry lane => Sys2Proof.Machine.execHoldTimerExpiry lane s
  | .quietTimerExpiry => Sys2Proof.Machine.execQuietTimerExpiry s
  | .shockComparatorEdge rate => Sys2Proof.Machine.execShockComparatorEdge s rate
  | .shockSpacingTimerExpiry => Sys2Proof.Machine.execShockSpacingTimerExpiry s
  | .vddBelowHoldLevel => Sys2Proof.Machine.execVddBelowHoldLevel s
  | .vddAtHoldLevel => Sys2Proof.Machine.execVddAtHoldLevel s
  | .dipFilterExpiry => Sys2Proof.Machine.execDipFilterExpiry s
  | .pendingOutExpiry tag => Sys2Proof.Machine.execPendingOutExpiry tag s
  | .heardOfferExpiry station tag => Sys2Proof.Machine.execHeardOfferExpiry station tag s
  | .carrierEntryStale station => Sys2Proof.Machine.execCarrierEntryStale station s
  | .carrierEntryRemoved station => Sys2Proof.Machine.execCarrierEntryRemoved station s
  | .settlingInExpiry => Sys2Proof.Machine.execSettlingInExpiry s
  | .refreshTimerExpiry slot => Sys2Proof.Machine.execRefreshTimerExpiry slot s
  | .takeoverTimerExpiry slot => Sys2Proof.Machine.execTakeoverTimerExpiry slot s
  | .repeatTimerExpiry slot => Sys2Proof.Machine.execRepeatTimerExpiry slot s
  | .muteTimerExpiry slot => Sys2Proof.Machine.execMuteTimerExpiry slot s
  | .noticeTimerExpiry lane => Sys2Proof.Machine.execNoticeTimerExpiry lane s
  | .presenceTimerExpiry => Sys2Proof.Machine.execPresenceTimerExpiry s
  | .shockReception station => Sys2Proof.Machine.execShockReception station s
  | .claimReception station offerStation offerTag claimType => Sys2Proof.Machine.execClaimReception station offerStation offerTag claimType s
  | .offerReception station tag article count grams tol window => Sys2Proof.Machine.execOfferReception station tag article count grams tol window s
  | .hushReception station article minutes => Sys2Proof.Machine.execHushReception station article minutes s
  | .alertReception station article status combined holding reorderPoint => Sys2Proof.Machine.execAlertReception station article status combined holding reorderPoint s
  | .noticeReception station lane article flags => Sys2Proof.Machine.execNoticeReception station lane article flags s
  | .stockReception station article holding flags => Sys2Proof.Machine.execStockReception station article holding flags s
  | .presenceReception station restartByte health => Sys2Proof.Machine.execPresenceReception station restartByte health s
  | .addressConflict payload => Sys2Proof.Machine.execAddressConflict payload s
  | .transmissionStart => Sys2Proof.Machine.execTransmissionStart s
  | .lostArbitration char bit => Sys2Proof.Machine.execLostArbitration char bit s
  | .readbackFailure char bit => Sys2Proof.Machine.execReadbackFailure char bit s
  | .dominantTimeout => Sys2Proof.Machine.execDominantTimeout s
  | .transmissionEnd => Sys2Proof.Machine.execTransmissionEnd s
  | .quarantineExpiry => Sys2Proof.Machine.execQuarantineExpiry s
  | .linkBecomesActive => Sys2Proof.Machine.execLinkBecomesActive s
  | .portSelect => Sys2Proof.Machine.execPortSelect s
  | .portDeselect clocked => Sys2Proof.Machine.execPortDeselect clocked s
  | .parameterByte byte => Sys2Proof.Machine.execParameterByte byte s
  | .unknownCommand code => Sys2Proof.Machine.execUnknownCommand code s
  | .setStation => Sys2Proof.Machine.execSetStation s
  | .setLink => Sys2Proof.Machine.execSetLink s
  | .setNeighbours => Sys2Proof.Machine.execSetNeighbours s
  | .writeSlots => Sys2Proof.Machine.execWriteSlots s
  | .writeLanes => Sys2Proof.Machine.execWriteLanes s
  | .captureZero => Sys2Proof.Machine.execCaptureZero s
  | .captureSpan => Sys2Proof.Machine.execCaptureSpan s
  | .store => Sys2Proof.Machine.execStore s
  | .storeComplete => Sys2Proof.Machine.execStoreComplete s
  | .start => Sys2Proof.Machine.execStart s
  | .restart => Sys2Proof.Machine.execRestart s
  | .readStatus => Sys2Proof.Machine.execReadStatus s
  | .readLane => Sys2Proof.Machine.execReadLane s
  | .readSlot => Sys2Proof.Machine.execReadSlot s
  | .readCarriers => Sys2Proof.Machine.execReadCarriers s
  | .powerOn atHoldLevel => Sys2Proof.Machine.execPowerOn atHoldLevel s
  | .supplyDip => Sys2Proof.Machine.execSupplyDip s
  | .pin => Sys2Proof.Machine.execPin s
  | .retentionLoss => Sys2Proof.Machine.execRetentionLoss s
  | .restartRelease atHoldLevel => Sys2Proof.Machine.execRestartRelease atHoldLevel s
  | .startDecision => Sys2Proof.Machine.execStartDecision s
  | .comparatorOutputInactive rate => Sys2Proof.Machine.execComparatorOutputInactive s rate
  | .framingError cause => Sys2Proof.Machine.execFramingError cause s
  | .lineIdle => Sys2Proof.Machine.execLineIdle s
  | .invalidFrameDropped frame => Sys2Proof.Machine.execInvalidFrameDropped frame s

end Sys2Proof.Machine
end

