-- ==== Sys2Proof/Machine/Time.lean ====
section
/-! DEFINITION. The passing of time: what one step does on an empty queue (log 2). The table has no row for the timebase, so
a tick is no command. In a tick every running timer and age moves by 20 µs and the line carries what this node sends and
what the other stations leave on it; a timer that has run out waits for the command that is its expiry. -/

namespace Sys2Proof.Machine

open Sys2Proof.Config

/-- The front end after a tick. -/
def FrontEnd.tick (f : FrontEnd) : FrontEnd :=
  { f with
    roundTimer := f.roundTimer.pass Config.tick
    sinceRound := f.sinceRound + Config.tick
    quietTimer := f.quietTimer.pass Config.tick
    spacingTimer := f.spacingTimer.pass Config.tick
    dipFilter := f.dipFilter.pass Config.tick
    lateSample := none }

/-- A lane after a tick: its hold timer and its notice timer. -/
def LaneUnit.tick (u : LaneUnit) : LaneUnit :=
  { u with
    settler := { u.settler with holdTimer := u.settler.holdTimer.pass Config.tick }
    notice := { u.notice with timer := u.notice.timer.pass Config.tick } }

/-- The matcher after a tick: the windows of both lists. -/
def Matcher.tick (m : Matcher) : Matcher :=
  { m with
    pendingOut := m.pendingOut.map fun e => { e with remaining := e.remaining - Config.tick }
    heard := m.heard.map fun e => { e with remaining := e.remaining - Config.tick } }

/-- A slot after a tick. -/
def SlotUnit.tick (u : SlotUnit) : SlotUnit :=
  { u with
    refreshTimer := u.refreshTimer.pass Config.tick
    takeoverTimer := u.takeoverTimer.pass Config.tick
    repeatTimer := u.repeatTimer.pass Config.tick
    muteTimer := u.muteTimer.pass Config.tick }

/-- A carrier entry after a tick: its age, up to 300 s (R84). -/
def CarrierEntry.tick (e : CarrierEntry) : CarrierEntry := { e with age := min (sec 300) (e.age + Config.tick) }

/-- The settling-in timer after a tick. -/
def SettlingIn.tick : SettlingIn → SettlingIn
  | .running t => .running (t - Config.tick)
  | other => other

/-! ## The line (R117 to R121, R127) -/

/-- The filtered line over one bit time: a dominant level sets the recessive count to 0 and clears the spacing flag; a recessive
one raises the count, held at 15, and at 15 the flag is cleared (R120). -/
def Link.countBit (k : Link) (recessive : Bool) : Link :=
  if recessive then
    let n := min 15 (k.recessiveCount + 1)
    { k with recessiveCount := n, spacing := if n = 15 then false else k.spacing }
  else { k with recessiveCount := 0, spacing := false }

/-- A dominant level starts a character behind the characters given; its start bit has been sampled (R119, R121). -/
def Link.startCharacter (k : Link) (buffer : List Byte) : Link :=
  { k with receiver := .inCharacter, buffer := buffer, bits := [false] }

/-- The receiver samples a bit of the character in progress. With the stop bit recessive, and more of the frame to come, the byte
is appended. A character that ends the frame, is a length above 12 or has a dominant stop bit waits with its ten bits for the
command of that event (R121, R122, log 2). -/
def Link.sampleBit (k : Link) (recessive : Bool) : Link :=
  if k.sampled then k
  else
    let bits := k.bits ++ [recessive]
    let chars := k.buffer ++ [charOf bits]
    if bits.length = 10 ∧ recessive = true ∧ frameGoesOn chars = true then
      { k with receiver := .betweenCharacters, buffer := chars, bits := [] }
    else { k with bits := bits }

/-- The receiver over one bit time of the filtered line, row by row of R121. A dominant level after an idle that has not been
taken finds the receiver as that idle leaves it, SEARCHING. -/
def Link.receiveBit (k : Link) (recessive : Bool) : Link :=
  match k.receiver with
  | .stopped => k
  | .searching => if recessive then k else k.startCharacter []
  | .inCharacter => k.sampleBit recessive
  | .betweenCharacters => if recessive then k else k.startCharacter (if k.idleDue then [] else k.buffer)
  | .waitingForIdle => if recessive || !k.idleDue then k else k.startCharacter []

/-- The level of the filtered line in a bit time, true for recessive: a bit of the node's own frame as it is sent, unless the
driver is kept released; else what the other stations leave. A bit read otherwise than it was sent is an event of its own
(R117, R125 to R127, log 2). -/
def Link.level (k : Link) (others : Bool) : Bool :=
  match k.flight with
  | some f =>
    if f.position < 10 * (frameChars f.frame).length then
      bitAt (frameChars f.frame) f.position || k.driverInhibited && others
    else others
  | none => others

/-- The bit being sent has passed: the driver for the next bit, free again from the first recessive one, and the dominant timer
(R117, R127). -/
def Link.sendBit (k : Link) : Link :=
  match k.flight with
  | some f =>
    let chars := frameChars f.frame
    if f.position < 10 * chars.length then
      let passed := bitAt chars f.position
      let coming := bitAt chars (f.position + 1)
      let inhibited := k.driverInhibited && !passed && !coming
      { k with
        flight := some { f with position := f.position + 1 }
        driverInhibited := inhibited
        driver := if coming || inhibited then .released else .driving
        dominantTimer := if passed || k.driverInhibited || coming then 0 else min 12 (k.dominantTimer + 1) }
    else k
  | none => k

/-- One bit time on the link: the receiver, the recessive count and the own frame; nothing in OFF (R118 to R121). -/
def Link.bitTime (others : Bool) (k : Link) : Link :=
  if k.state = .off then k
  else ((k.receiveBit (k.level others)).countBit (k.level others)).sendBit

/-- Some bit times on the link, each with the level that the other stations leave. -/
def Link.bitTimes (levels : List Bool) (k : Link) : Link := levels.foldl (fun k others => k.bitTime others) k

/-- The levels that the other stations leave in the bit times of a tick, one at 50 kbit/s and two at 100 kbit/s (R118, log
20). -/
def lineLevels (rate : BitRate) (now : Nat) : List Bool :=
  (List.range (bitsPerTick rate)).map fun j => Config.lineLevel (now + 10 * j)

/-- The link after a tick. -/
def Link.tick (levels : List Bool) (k : Link) : Link :=
  Link.bitTimes levels { k with quarantineTimer := k.quarantineTimer.pass Config.tick }

/-- The port after a tick: while it is selected and works, the edges of CPCLK that the installer gives in it, none or some
(R148, R149, log 13). -/
def State.portAfterTick (s : State) : Port := s.clocked (Config.portEdges s.now)

/-- The start-up block after a tick: the start delay and the indicator clock; a STORE that has cleared the marker begins to write
(R167, log 12). -/
def StartUp.tick (u : StartUp) : StartUp :=
  { u with
    storePhase := if u.storePhase = .markerCleared then .writing else u.storePhase
    startDelay := u.startDelay.pass Config.tick
    indicatorClock := u.indicatorClock.map fun t => t + Config.tick }

/-- The part after 20 µs in which no command is taken (log 2). -/
def State.tick (s : State) : State :=
  { s with
    frontEnd := s.frontEnd.tick
    lanes := s.lanes.map LaneUnit.tick
    matcher := s.matcher.tick
    slots := s.slots.map SlotUnit.tick
    carriers := s.carriers.map fun p => p.map CarrierEntry.tick
    settlingIn := s.settlingIn.tick
    queue := { s.queue with presenceTimer := s.queue.presenceTimer.pass Config.tick }
    link := s.link.tick (lineLevels s.running.bitRate s.now)
    port := s.portAfterTick
    startUp := s.startUp.tick
    now := s.now + Config.tick }

end Sys2Proof.Machine
end

