-- ==== Sys2Proof/Safety.lean ====
section
/-! DEFINITION. What counts as a safe state: the bounds and relations that the spec gives the SB4's state, each a predicate
that every step should keep, and a safe step: one that answers a next state. -/

namespace Sys2Proof.Machine

open Sys2Proof.Config

/-- A step of the state answers a next state. -/
def Safe (s : State) : Prop := ∃ t, step s = .next t

/-- Tallies within their counters (R52). -/
def Tallies.bounded (t : Tallies) : Prop :=
  t.picks ≤ 65535 ∧ t.relocatedOut ≤ 65535 ∧ t.matchedIn ≤ 65535 ∧ t.restockIn ≤ 65535 ∧ t.foreignSeen ≤ 65535

/-- A lane within the ranges of R20, R38, R44, R49 and R52: at most eight samples in the window, a count of 0 to 999, a doubt
counter of 0 to 3 that is not 0 while AUDIT is set, a zero offset within ±500 g, tallies within their counters. -/
structure LaneUnit.bounded (u : LaneUnit) : Prop where
  window : u.settler.window.length ≤ 8
  count : u.counting.count ≤ 999
  doubt : u.counting.doubt ≤ 3
  audit : u.counting.audit = true → 1 ≤ u.counting.doubt
  offsetLow : -500 ≤ u.counting.zeroOffset
  offsetHigh : u.counting.zeroOffset ≤ 500
  tallies : u.counting.tallies.bounded

/-- Every lane is within its ranges. -/
def LanesBounded (s : State) : Prop := ∀ l : Lane, (s.lane l).bounded

/-- A slot's timers run in the states that own them and in no other: takeover in FOLLOWING (R102), repeat in RAISED (R103),
mute in MUTED (R106). -/
structure SlotUnit.timed (u : SlotUnit) : Prop where
  takeover : u.takeoverTimer.isRunning = true ↔ u.alert = .following
  repeating : u.repeatTimer.isRunning = true ↔ u.alert = .raised
  muting : u.muteTimer.isRunning = true ↔ u.alert = .muted

/-- Every slot's alert timers fit its alert state. -/
def AlertsTimed (s : State) : Prop := ∀ i : Slot, (s.slot i).timed

/-- The link (section 7.1, R117, R119, R130, R131): the health counter is 0 to 35, below 32 while the link may come to start a
frame, and a frame is in flight only in ACTIVE; a recessive count of 0 to 15, at most 17 characters in the frame buffer, a
dominant timer of 0 to 12, and bits of a character in IN CHARACTER alone, at most ten. -/
structure LinkSound (s : State) : Prop where
  health : s.link.health ≤ 35
  able : s.link.state = .joining ∨ s.link.state = .active → s.link.health ≤ 31
  flight : s.link.flight.isSome = true → s.link.state = .active
  count : s.link.recessiveCount ≤ 15
  buffer : s.link.buffer.length ≤ 17
  timer : s.link.dominantTimer ≤ 12
  bits : s.link.bits.length ≤ 10
  between : s.link.receiver ≠ .inCharacter → s.link.bits = []

/-- The matcher's lists (R57, R63): at most eight entries each, no two pending-out entries of one tag, no two heard offers of
one station and tag, none of the node's own station. -/
structure ListsSound (s : State) : Prop where
  pending : s.matcher.pendingOut.length ≤ 8
  tags : (s.matcher.pendingOut.map PendingOut.tag).Nodup
  heard : s.matcher.heard.length ≤ 8
  offers : (s.matcher.heard.map fun e => (e.station, e.tag)).Nodup
  peers : ∀ e ∈ s.matcher.heard, e.station ≠ s.running.station

/-- The transmit queue (R139 to R142) beside sound lists: one request for each key, at most eight CLAIM requests, and an
OFFER request only for a pending-out entry whose OFFER has not been sent, never renewed. -/
structure QueueSound (s : State) : Prop where
  lists : ListsSound s
  keys : (s.queue.requests.map Request.key).Nodup
  claims : claimsHeld s.queue.requests ≤ 8
  offers : ∀ r ∈ s.queue.requests, ∀ tag, r.key = .offer tag →
    r.renewal = none ∧ ∃ e ∈ s.matcher.pendingOut, e.tag = tag ∧ e.status ≠ .sent

/-- Outside RUN every block that works only in RUN is at rest (R19, R38, R55, R78, R96, R133, R145, section 8.3): no settler,
no count, no foreign record, no notice, empty lists, slots, carrier table and queue, the link OFF, the quiet and spacing
timers STOPPED and the scan mode FAST (R7, R12). -/
structure AtRest (s : State) : Prop where
  settlers : ∀ l : Lane, (s.lane l).settler = Settler.cleared
  counts : ∀ l : Lane, (s.lane l).counting = CountUnit.cleared
  records : ∀ l : Lane, (s.lane l).foreign = none
  notices : ∀ l : Lane, (s.lane l).notice = LaneNotice.cleared
  matcher : s.matcher = Matcher.cleared
  slots : ∀ i : Slot, s.slot i = SlotUnit.cleared
  carriers : s.carriers = Vector.replicate 32 none
  settlingIn : s.settlingIn = .notStarted
  queue : s.queue = TransmitQueue.cleared
  link : s.link = Link.cleared
  mode : s.frontEnd.mode = .fast
  quiet : s.frontEnd.quietTimer = .stopped
  spacing : s.frontEnd.spacingTimer = .stopped

/-- A node that is not in RUN is at rest. -/
def RestsOutsideRun (s : State) : Prop := s.startUp.node ≠ .run → AtRest s

/-! ## Configurations -/

/-- A slot record within the ranges of section 9.1. -/
structure SlotRanged (r : SlotRecord) : Prop where
  article : r.article < 16777216
  reorder : r.reorderPoint ≤ 3996
  hysteresis : 1 ≤ r.hysteresis ∧ r.hysteresis ≤ 500

/-- A lane record within the ranges of section 9.1. -/
structure LaneRanged (r : LaneRecord) : Prop where
  unit : 5 ≤ r.unitWeight ∧ r.unitWeight ≤ 30000
  allowance : r.allowance ≤ 200
  base : 1 ≤ r.baseTol ∧ r.baseTol ≤ 2000
  motion : 2 ≤ r.motion ∧ r.motion ≤ 5000
  band : 1 ≤ r.band ∧ r.band ≤ 500
  settle : 4 ≤ r.settleCount ∧ r.settleCount ≤ 64
  zero : -8388608 ≤ r.zeroCode ∧ r.zeroCode ≤ 8388607
  span : r.spanCaptured = true → 1 ≤ r.span ∧ r.span ≤ 65535

/-- A configuration within the ranges of section 9.1: its neighbour list holds at most four different stations and never the
node's own (R153, R155). -/
structure ConfigRanged (c : NodeConfig) : Prop where
  station : c.station ≤ 120
  window : 5 ≤ c.matchWindow ∧ c.matchWindow ≤ 120
  level : 1 ≤ c.shockLevel ∧ c.shockLevel ≤ 4
  count : c.neighbours.length ≤ 4
  stations : ∀ n ∈ c.neighbours, 1 ≤ n ∧ n ≤ 120 ∧ n ≠ c.station
  distinct : c.neighbours.Nodup
  slots : ∀ i : Slot, SlotRanged (slotOf c i)
  lanes : ∀ l : Lane, LaneRanged (laneOf c l)

/-- Every configuration that the part can come to use is within its ranges: the working copy, the running configuration and a
VALID image; a capture in progress has taken fewer than 32 codes, none of them saturated (R153 to R160). -/
structure ConfigSound (s : State) : Prop where
  working : ConfigRanged s.working
  running : ConfigRanged s.running
  image : s.startUp.markerValid = true → ConfigRanged s.startUp.image
  capture : ∀ c, s.port.capture = some c → c.samples < 32 ∧ c.sum.natAbs ≤ 8388607 * c.samples

/-! ## Carrier table and indicators -/

/-- The carrier table (R83, R84, R86): no two entries of one station and slot, no entry of the node's own station or of a
number outside 1 to 120, and all entries of one station of the same age and band. -/
structure CarriersSound (s : State) : Prop where
  single : ∀ (p q : Fin 32) (e f : CarrierEntry), s.carriers[p] = some e → s.carriers[q] = some f →
    e.station = f.station → e.slot = f.slot → p = q
  peers : ∀ (p : Fin 32) (e : CarrierEntry), s.carriers[p] = some e →
    1 ≤ e.station ∧ e.station ≤ 120 ∧ e.station ≠ s.running.station
  ages : ∀ (p q : Fin 32) (e f : CarrierEntry), s.carriers[p] = some e → s.carriers[q] = some f →
    e.station = f.station → e.age = f.age ∧ e.band = f.band

/-- Every lane's indicator drive is what the table of R113 derives from the notice flags and the alert states. -/
def IndicatorsShown (s : State) : Prop := ∀ l : Lane, (s.lane l).notice.indicator = s.indicatorOf l

/-! ## What the obligations share -/

/-- `q` is `a ÷ b` rounded to the nearest whole number, an exact half away from zero (section 0.5). -/
def RoundsTo (a : Int) (b : Nat) (q : Int) : Prop :=
  2 * (a - q * (b : Int)).natAbs ≤ b ∧ (2 * (a - q * (b : Int)).natAbs = b → a.natAbs ≤ (q * (b : Int)).natAbs)

/-- The window after a sample has joined it: the newest eight samples (R20). -/
def joined (w : List Int) (g : Int) : List Int := (w ++ [g]).drop (w.length + 1 - 8)

/-- A window is full and all its samples lie within a band of one another (R21, R23). -/
def Close (band : Nat) (w : List Int) : Prop := w.length = 8 ∧ ∀ x ∈ w, ∀ y ∈ w, x - y ≤ (band : Int)

/-- The next conversion of the round in progress is that of this lane, and its excitation check has been made (R1). -/
structure Converts (s : State) (l : Lane) : Prop where
  due : s.frontEnd.conversionsDue.head? = some l
  checked : s.frontEnd.checkDue = false
  supplied : s.frontEnd.supplyHold = false

/-- A raw code's sample event in RUN brings a lane in SETTLING to its settle event: an IN-RANGE sample of some grams, past
warm-up, makes the settle counter Ks with a narrow window (R5, R24, R36). -/
structure SettlesWith (s : State) (l : Lane) (code : BitVec 24) (first : Bool) (g : Int) (w : List Int) : Prop where
  run : s.startUp.node = .run
  converts : Converts s l
  warm : (s.lane l).warmUp = 0
  sample : sampleOf (laneOf s.running l) ((s.lane l).counting.arithmeticOffset first) code =
    { raw := code.toInt, cls := .inRange, grams := some g }
  settling : (s.lane l).settler.state = some .settling
  counter : (s.lane l).settler.settleCounter + 1 = (laneOf s.running l).settleCount
  window : joined (s.lane l).settler.window g = w
  narrow : Close (laneOf s.running l).band w

/-- The receiver can complete some characters that another station sends: it runs, no frame of the node is in flight, and it
searches for their start, or the bits it has sampled are a beginning of theirs, with no idle of 11 bit times since (R121). -/
structure Assembles (s : State) (chars : List Byte) : Prop where
  receives : s.link.state ≠ .off
  free : s.link.flight = none
  place : s.link.receiver = .searching ∨
    (s.link.receiver = .inCharacter ∨ s.link.receiver = .betweenCharacters ∧ s.link.recessiveCount < 11) ∧
      s.link.buffer.flatMap charBits ++ s.link.bits <+: chars.flatMap charBits ∧ s.link.buffer.length < chars.length

/-- A frame of another station than this node, 1 to 120, which the link's receiver can complete (R121, R123, R137). -/
structure PeerFrame (s : State) (f : Frame) : Prop where
  assembles : Assembles s (frameChars f)
  valid : 1 ≤ f.station.toNat ∧ f.station.toNat ≤ 120
  peer : f.station ≠ s.ownStation

/-- A frame is the node's own frame, sent to its end, and its reception is still to be taken, after its transmission end or
before it; the link as the reception leaves it (R123, R128). -/
inductive OwnDelivery (s : State) (f : Frame) : Link → Prop where
  | after : s.link.state ≠ .off → s.link.flight = none → s.link.ownDelivery = some f → f.station = s.ownStation →
      OwnDelivery s f { s.link with ownDelivery := none }
  | before (g : Flight) : s.link.state ≠ .off → s.link.flight = some g → g.frame = f → g.delivered = false →
      g.position = 10 * (frameChars f).length → f.station = s.ownStation →
      OwnDelivery s f { s.link with flight := some { g with delivered := true } }

/-- A frame of another station than this node, outside 1 to 120, which the link's receiver can complete (R137). -/
structure OutsideFrame (s : State) (f : Frame) : Prop where
  assembles : Assembles s (frameChars f)
  outside : f.station.toNat = 0 ∨ 120 < f.station.toNat
  peer : f.station ≠ s.ownStation

/-- The carrier table after a valid frame of a station: its entries at age 0 and FRESH, the others as they were (R83). -/
def Refreshed (s : State) (station : Nat) (carriers : Vector (Option CarrierEntry) 32) : Prop :=
  ∀ p : Fin 32, carriers[p] = match s.carriers[p] with
    | some e => if e.station = station then some { e with age := 0, band := .fresh } else some e
    | none => none

/-- A STALE entry of a station belongs to this slot: its refresh owes the slot's evaluation (R83, R89). -/
def OwedByRefresh (s : State) (station : Nat) (i : Slot) : Prop :=
  ∃ (p : Fin 32) (e : CarrierEntry), s.carriers[p] = some e ∧ e.station = station ∧ e.band = .stale ∧ e.slot = i

/-- A reception that does no more than refresh the sender's carrier entries and make the evaluations which that owes (R83, R89,
R137); the link is left as given. -/
def RefreshOnly (s : State) (f : Frame) (link : Link) (outcome : Host.Outcome State Fault Refusal) : Prop :=
  ∃ owed carriers, Refreshed s f.station.toNat carriers ∧ (∀ i, i ∈ owed ↔ OwedByRefresh s f.station.toNat i) ∧
    outcome = .next (State.evaluateAll { s with carriers := carriers, link := link } owed)

/-- The reception command of a frame (section 7.3). -/
def Frame.reception (f : Frame) : Instr :=
  match f.payload with
  | .shock => .shockReception f.station
  | .claim station tag type => .claimReception f.station station tag type
  | .offer tag article count grams tol window => .offerReception f.station tag article count grams tol window
  | .hush article minutes => .hushReception f.station article minutes
  | .alert article status combined holding reorder => .alertReception f.station article status combined holding reorder
  | .notice lane article flags => .noticeReception f.station lane article flags
  | .stock article holding flags => .stockReception f.station article holding flags
  | .presence restartByte health => .presenceReception f.station restartByte health

/-- The filtered line is recessive in a bit time: a bit of the node's own frame is recessive, or is a dominant one that a driver
kept released does not give while the other stations leave the line recessive; with no bit of its own left, they do (R117,
R119). -/
def LineRecessive (others : Bool) (k : Link) : Prop :=
  (∀ f, k.flight = some f → f.position < 10 * (frameChars f.frame).length →
    bitAt (frameChars f.frame) f.position = true ∨ k.driverInhibited = true ∧ others = true) ∧
  ((∀ f, k.flight = some f → 10 * (frameChars f.frame).length ≤ f.position) → others = true)

/-- The receiver's items after one bit time, over the items before it (R119, R121, R122). A dominant level starts a character:
of a new frame in SEARCHING, and where an idle of 11 bit times has passed, and the next one in BETWEEN CHARACTERS. In a
character the bit is sampled. The tenth, recessive, appends the byte when more of the frame is to come; a character that ends
the frame, is a length above 12 or has a dominant stop bit waits with its ten bits for the command of that event. -/
structure BitReceived (k m : Link) (recessive : Bool) : Prop where
  start : recessive = false → k.receiver = .searching ∨
      11 ≤ k.recessiveCount ∧ (k.receiver = .betweenCharacters ∨ k.receiver = .waitingForIdle) →
    m.receiver = .inCharacter ∧ m.buffer = [] ∧ m.bits = [false]
  next : recessive = false → k.receiver = .betweenCharacters → k.recessiveCount < 11 →
    m.receiver = .inCharacter ∧ m.buffer = k.buffer ∧ m.bits = [false]
  waits : k.receiver = .stopped ∨ k.receiver = .waitingForIdle ∧ (recessive = true ∨ k.recessiveCount < 11) ∨
      (k.receiver = .searching ∨ k.receiver = .betweenCharacters) ∧ recessive = true ∨
      k.receiver = .inCharacter ∧ 10 ≤ k.bits.length →
    m.receiver = k.receiver ∧ m.buffer = k.buffer ∧ m.bits = k.bits
  samples : k.receiver = .inCharacter → k.bits.length < 9 →
    m.receiver = .inCharacter ∧ m.buffer = k.buffer ∧ m.bits = k.bits ++ [recessive]
  stop : ∀ (first : Bool) (char : Byte), k.receiver = .inCharacter → k.bits = first :: byteBits char →
    (recessive = true → (∀ len, (k.buffer ++ [char])[2]? = some len → len.toNat ≤ 12 ∧ k.buffer.length < len.toNat + 4) →
      m.receiver = .betweenCharacters ∧ m.buffer = k.buffer ++ [char] ∧ m.bits = []) ∧
    (recessive = false ∨
        (∃ len, (k.buffer ++ [char])[2]? = some len ∧ (12 < len.toNat ∨ len.toNat + 4 ≤ k.buffer.length)) →
      m.receiver = .inCharacter ∧ m.buffer = k.buffer ∧ m.bits = k.bits ++ [recessive])

/-- One bit time on the link, with the level that the other stations leave (R117, R118, R120, R121, R127). In OFF the link
takes none. A dominant level of the filtered line sets the recessive count to 0 and clears the spacing flag; a recessive one
raises the count, held at 15, where the flag is cleared; the receiver takes the bit. Of a frame in flight the bit at its
progress has passed: the driver stands for the bit that comes, and a driver kept released is free again from the first
recessive bit. -/
structure BitTime (others : Bool) (k m : Link) : Prop where
  off : k.state = .off → m = k
  count : k.state ≠ .off →
    (LineRecessive others k →
      m.recessiveCount = min 15 (k.recessiveCount + 1) ∧ m.spacing = (k.spacing && decide (k.recessiveCount < 14))) ∧
    (¬ LineRecessive others k → m.recessiveCount = 0 ∧ m.spacing = false)
  receiver : k.state ≠ .off → ∀ recessive, (recessive = true ↔ LineRecessive others k) → BitReceived k m recessive
  idle : k.state ≠ .off → (∀ f, k.flight = some f → 10 * (frameChars f.frame).length ≤ f.position) → m = { k with
    recessiveCount := m.recessiveCount, spacing := m.spacing, receiver := m.receiver, buffer := m.buffer, bits := m.bits }
  sent : k.state ≠ .off → ∀ f chars, k.flight = some f → chars = frameChars f.frame → f.position < 10 * chars.length →
    m.flight = some { f with position := f.position + 1 } ∧
    (m.driverInhibited = true ↔
      k.driverInhibited = true ∧ bitAt chars f.position = false ∧ bitAt chars (f.position + 1) = false) ∧
    (m.driver = .driving ↔ bitAt chars (f.position + 1) = false ∧ m.driverInhibited = false) ∧
    m.dominantTimer =
      (if bitAt chars f.position = false ∧ k.driverInhibited = false ∧ bitAt chars (f.position + 1) = false then
        min 12 (k.dominantTimer + 1) else 0) ∧
    m = { k with
      flight := m.flight, recessiveCount := m.recessiveCount, spacing := m.spacing, driverInhibited := m.driverInhibited
      driver := m.driver, dominantTimer := m.dominantTimer, receiver := m.receiver, buffer := m.buffer, bits := m.bits }

/-- The receiver goes on in a character of the node's own frame: the characters before it are those sent, its bits those sent up
to the one read last (R121, R125, R126). -/
def ReadsOn (k : Link) (chars : List Byte) (char bit : Nat) (read : Bool) : Prop :=
  k.receiver = .inCharacter ∧ k.buffer = chars.take char ∧ k.bits.length = bit + 1 ∧
    (∀ j, j < bit → k.bits[j]? = some (bitAt chars (10 * char + j))) ∧ k.bits[bit]? = some read

/-- The bits that the port has sampled since the last whole byte are a beginning of this byte (R148). -/
def Forms (s : State) (b : Byte) : Prop := s.port.incoming <+: byteBits b ∧ s.port.incoming.length < 8

/-- RUN entry (R170) with a running configuration at an instant, from a front end whose supply items stay (R18, R165) and with
each lane's last sample: every block at the state its own rule gives it (R18, R19, R28, R38, R55, R78, R96, R132, R133, R145).
-/
structure RunEntered (t : State) (cfg : NodeConfig) (now : Nat) (supply : FrontEnd) (last : Lane → Sample) : Prop where
  node : t.startUp.node = .run
  running : t.running = cfg
  working : t.working = cfg
  frontEnd : t.frontEnd = { supply with
    mode := .fast, roundTimer := .running 0, sinceRound := t.frontEnd.sinceRound, checkDue := false, conversionsDue := []
    roundLanes := t.frontEnd.roundLanes, lateSample := none, quietTimer := .stopped, shockLatch := false
    spacingTimer := .stopped }
  compared : ∀ l, l ∈ t.frontEnd.roundLanes ↔ laneEnabled cfg l = true
  lanes : ∀ l, t.lane l =
    { warmUp := 8, lastSample := last l, foreign := none
      settler :=
        { state :=
            if laneEnabled cfg l = true then (if supply.supplyHold = true then some .held else some .moving) else none
          window := [], reference := 0, settleCounter := 0, motionRun := 0, known := false, holdTimer := .stopped
          supplyWait := laneEnabled cfg l && supply.supplyHold, outOfRangeRun := 0, inRangeRun := 0 }
      counting :=
        { count := 0, doubt := 0, audit := false, zeroOffset := 0, priorOffset := none
          tallies := { picks := 0, relocatedOut := 0, matchedIn := 0, restockIn := 0, foreignSeen := 0 }
          report := SettleReport.bare .none }
      notice := { audit := false, foreign := false, fault := false, timer := .stopped, indicator := .off } }
  matcher : t.matcher = { pendingOut := [], heard := [], tagCounter := 0 }
  slots : ∀ i, t.slot i =
    { holding := 0, ready := false, uncertain := false, refreshTimer := .stopped, alert := .normal, lastSent := .none
      takeoverTimer := .stopped, repeatTimer := .stopped, muteTimer := .stopped }
  carriers : ∀ p : Fin 32, t.carriers[p] = none
  settlingIn : t.settlingIn = .notStarted
  queue : t.queue =
    { requests := [{ key := .presence, age := now, inFlight := false, renewal := none, claimType := none }]
      presenceTimer := .running 10000000, restartFlag := true }
  link : t.link =
    { state := .joining, driver := .released, driverInhibited := false, recessiveCount := 0, spacing := false
      receiver := .searching, buffer := [], bits := [], flight := none, dominantTimer := 0, health := 0
      quarantineTimer := .stopped, addressConflict := false, ownDelivery := none }

/-- A CLAIM's offer station and type are such that the dispatch hands it to the matcher: a station of 1 to 120, and RELOCATION
or FOREIGN (R137). -/
def ClaimHanded (offerStation type : Byte) : Prop :=
  (1 ≤ offerStation.toNat ∧ offerStation.toNat ≤ 120) ∧ (type = 1 ∨ type = 2)

/-- A lane is enabled and its slot has the article of another lane's slot (R79). -/
def SharesArticle (cfg : NodeConfig) (l m : Lane) : Prop :=
  laneEnabled cfg m = true ∧ articleOfLane cfg m = articleOfLane cfg l

/-- A slot's uncertain flag is what the enabled lanes of a lane's article make it: one of them in FAULT or in AUDIT (R82). -/
def UncertainOf (s : State) (l : Lane) (uncertain : Bool) : Prop :=
  uncertain = true ↔ ∃ m, SharesArticle s.running l m ∧
    ((s.lane m).settler.state = some .fault ∨ (s.lane m).counting.audit = true)

/-- Hn, the ready flag or the uncertain flag of a slot has changed (R89). -/
def StockChanged (u v : SlotUnit) : Prop :=
  v.holding ≠ u.holding ∨ v.ready ≠ u.ready ∨ v.uncertain ≠ u.uncertain

/-- A count unit report of a lane, from one state to the next (R51, R80 to R82, R91, R92): the slot of the lane's article holds
the sum of the counts of the article's enabled lanes, is ready when they are all known and uncertain when one is in FAULT or in
AUDIT; becoming ready starts its refresh timer at 120 s; a change of any of the three places a STOCK request when the slot is
ready. Nothing else changes. -/
structure Reported (s t : State) (l : Lane) (i : Slot) : Prop where
  holding : (t.slot i).holding = ([Lane.l1, Lane.l2, Lane.l3, Lane.l4].map fun m =>
    if laneEnabled s.running m = true ∧ articleOfLane s.running m = articleOfLane s.running l then
      (s.lane m).counting.count else 0).sum
  ready : (t.slot i).ready = true ↔ ∀ m, SharesArticle s.running l m → (s.lane m).settler.known = true
  uncertain : UncertainOf s l (t.slot i).uncertain
  timer : (t.slot i).refreshTimer =
    if (t.slot i).ready = true ∧ (s.slot i).ready = false then .running 120000000 else (s.slot i).refreshTimer
  unit : t.slot i = { s.slot i with
    holding := (t.slot i).holding, ready := (t.slot i).ready, uncertain := (t.slot i).uncertain
    refreshTimer := (t.slot i).refreshTimer }
  announced : (t.slot i).ready = true → StockChanged (s.slot i) (t.slot i) → t.queue = (s.place (.stock i)).queue
  silent : (t.slot i).ready = false ∨ ¬ StockChanged (s.slot i) (t.slot i) → t.queue = s.queue
  others : ∀ j, j ≠ i → t.slot j = s.slot j
  frame : t = { s with slots := t.slots, queue := t.queue }

/-- The count unit report of a lane reaches the article slot of its article, when there is one, and owes that slot's evaluation,
also where it changes none of the slot's items (R51, R79, R89; log 30). -/
structure Announced (s t : State) (l : Lane) (owed : List Slot) : Prop where
  slot : ∀ i, articleSlot s.running (articleOfLane s.running l) = some i → Reported s t l i
  none : articleSlot s.running (articleOfLane s.running l) = none → t = s
  owed : ∀ i, i ∈ owed ↔ articleSlot s.running (articleOfLane s.running l) = some i

/-- A lane's notice items after one of its flags has been set or cleared: the timer starts at 60 s when it is STOPPED and a flag
is set, and stops when none is; the indicator is as given (R111, R113). -/
def noticeAfter (n : LaneNotice) (indicator : IndicatorDrive) : LaneNotice :=
  { n with
    timer := if (n.audit || n.foreign || n.fault) = true then
        (if n.timer = .stopped then .running 60000000 else n.timer) else .stopped
    indicator := indicator }

/-- The front end after a conversion that changes lane states, none of them from STABLE or FAULT: the quiet timer follows the
quiet condition (R1, R8). -/
def FrontEnd.afterChange (f : FrontEnd) (quiet : Bool) : FrontEnd :=
  { f with
    conversionsDue := f.conversionsDue.tail, lateSample := none
    quietTimer := if quiet = true then
        (if f.quietTimer = .stopped then .running 120000000 else f.quietTimer) else .stopped }

/-- The settle of a lane has been counted, before its movement is handed on and its report made (R36, R39 to R44, R48, R49, R53,
R110): the sample is the lane's last one; the lane is known and STABLE with W = F; count and doubt counter are those of the
settle, AUDIT set at 3 and cleared at 0; where zero tracking applies the offset moves by F, held within ±500 g, and when that
changes it W is restated and the window emptied; a change of AUDIT takes its notice with it. -/
structure Counted (s q : State) (l : Lane) (x : Sample) (w : List Int) (F : Int) (f : Figures) (Z : Bool) (O : Int)
    (report : SettleReport) : Prop where
  figures : f = figuresOf (laneOf s.running l) F (((s.lane l).foreign.map ForeignRecord.grams).getD 0)
  tracks : Z = true ↔ f.accepted = true ∧ f.n = 0 ∧ (s.lane l).foreign = none ∧
    f.effective.natAbs ≤ min (laneOf s.running l).baseTol ((laneOf s.running l).unitWeight / 4)
  offset : O = if Z = true then max (-500) (min 500 ((s.lane l).counting.zeroOffset + F)) else (s.lane l).counting.zeroOffset
  doubt : (q.lane l).counting.doubt =
    if f.accepted = true then (s.lane l).counting.doubt - 1 else min 3 ((s.lane l).counting.doubt + 1)
  audit : (q.lane l).counting.audit =
    if (q.lane l).counting.doubt = 3 then true
    else if (q.lane l).counting.doubt = 0 then false else (s.lane l).counting.audit
  lane : q.lane l = { s.lane l with
    lastSample := x
    settler := { (s.lane l).settler with
      state := some .stable, known := true, settleCounter := 0, motionRun := 0, outOfRangeRun := 0
      reference := F - (O - (s.lane l).counting.zeroOffset)
      window := if O = (s.lane l).counting.zeroOffset then w else [] }
    counting := { (s.lane l).counting with
      count := f.n, doubt := (q.lane l).counting.doubt, audit := (q.lane l).counting.audit, zeroOffset := O
      priorOffset := if O = (s.lane l).counting.zeroOffset then none else some (s.lane l).counting.zeroOffset
      report := report }
    notice := if (q.lane l).counting.audit = (s.lane l).counting.audit then (s.lane l).notice
      else noticeAfter { (s.lane l).notice with audit := (q.lane l).counting.audit } (q.indicatorOf l) }
  others : ∀ m, m ≠ l → q.lane m = s.lane m
  frame : q = { s with
    lanes := q.lanes
    queue := if (q.lane l).counting.audit = (s.lane l).counting.audit then s.queue
      else (s.place (.notice l)).queue }

/-- The field of some bytes at a place of a reply carries a number, most significant byte first (R172). -/
def CarriesAt (reply : List Byte) (place width value : Nat) : Prop :=
  ∀ k, k < width → reply[place + k]? = some (BitVec.ofNat 8 (value / 256 ^ (width - 1 - k)))

/-- Two lanes' units differ in nothing but the indicator drive. -/
def SameButIndicator (u v : LaneUnit) : Prop :=
  v = { u with notice := { u.notice with indicator := v.notice.indicator } }

/-- Two lanes' units differ in nothing but the tallies and the indicator drive. -/
def SameButTallies (u v : LaneUnit) : Prop :=
  v = { u with
    counting := { u.counting with tallies := v.counting.tallies }
    notice := { u.notice with indicator := v.notice.indicator } }

/-- Two slots' units differ in nothing but the alert state and its timers, as after an evaluation. -/
def SameButAlert (u v : SlotUnit) : Prop :=
  v = { u with
    alert := v.alert, takeoverTimer := v.takeoverTimer, repeatTimer := v.repeatTimer, muteTimer := v.muteTimer }

end Sys2Proof.Machine
end

