-- ==== Sys2Proof/Certificates/Slice0/Obligations.lean ====
section
/-! DEFINITION. The statements about the model, in the order of OBLIGATIONS.json. Each docstring names the rule or the
sections of spec/ behind a statement; where a statement or a clause of it rests on a choice of the model, the docstring names
the log entry. A next state is given field by field and closed by its frame: an equation that says which fields may differ
from the state before, every other field being the same. Times are microseconds. -/

open Sys2Proof Sys2Proof.Machine Sys2Proof.Config

/-! ## The machine -/

/-- A step takes the command at the front of the queue and runs it on the state with the queue's rest. On an empty queue the
timebase moves on by 20 µs (log 2: that the time of one step is 20 µs, two bit times at 100 kbit/s and one at 50, that it
passes on an empty queue alone, and that a timer that has run out waits at 0 for its expiry, are the model's choice): every
running timer and every window counts down, the carrier ages count up to 300 s, the settling-in timer, the time since the
round start and the indicator clock move, a STORE that has cleared its marker begins to write (that it does so then is the
model's choice, log 12), the link takes its bit times at the levels that the other stations leave, which are open (log 20), and
nothing else changes but the edges of the port's clock. -/
def Obligations.StepRunsFrontCommand : Prop :=
  (∀ (c : Instr) (rest : List Instr) (s : State), s.pending = c :: rest → step s = exec c { s with pending := rest }) ∧
  (∀ d : Nat, (Timer.running d).pass 20 = .running (d - 20)) ∧ Timer.stopped.pass 20 = .stopped ∧
  ∀ s : State, s.pending = [] → ∃ t, step s = .next t ∧ t.now = s.now + 20 ∧
    t.frontEnd = { s.frontEnd with
      roundTimer := s.frontEnd.roundTimer.pass 20, sinceRound := s.frontEnd.sinceRound + 20
      quietTimer := s.frontEnd.quietTimer.pass 20, spacingTimer := s.frontEnd.spacingTimer.pass 20
      dipFilter := s.frontEnd.dipFilter.pass 20, lateSample := none } ∧
    (∀ l, t.lane l = { s.lane l with
      settler := { (s.lane l).settler with holdTimer := (s.lane l).settler.holdTimer.pass 20 }
      notice := { (s.lane l).notice with timer := (s.lane l).notice.timer.pass 20 } }) ∧
    t.matcher = { s.matcher with
      pendingOut := s.matcher.pendingOut.map fun e => { e with remaining := e.remaining - 20 }
      heard := s.matcher.heard.map fun e => { e with remaining := e.remaining - 20 } } ∧
    (∀ i, t.slot i = { s.slot i with
      refreshTimer := (s.slot i).refreshTimer.pass 20, takeoverTimer := (s.slot i).takeoverTimer.pass 20
      repeatTimer := (s.slot i).repeatTimer.pass 20, muteTimer := (s.slot i).muteTimer.pass 20 }) ∧
    (∀ p : Fin 32, t.carriers[p] = s.carriers[p].map fun e => { e with age := min 300000000 (e.age + 20) }) ∧
    (∀ d, s.settlingIn = .running d → t.settlingIn = .running (d - 20)) ∧
    (s.settlingIn = .notStarted ∨ s.settlingIn = .ended → t.settlingIn = s.settlingIn) ∧
    t.queue = { s.queue with presenceTimer := s.queue.presenceTimer.pass 20 } ∧
    t.startUp = { s.startUp with
      startDelay := s.startUp.startDelay.pass 20, indicatorClock := s.startUp.indicatorClock.map fun c => c + 20
      storePhase := if s.startUp.storePhase = .markerCleared then .writing else s.startUp.storePhase } ∧
    (∀ k, k = { s.link with quarantineTimer := s.link.quarantineTimer.pass 20 } →
      (s.running.bitRate = .k50 → BitTime (lineLevel s.now) k t.link) ∧
      (s.running.bitRate = .k100 → ∃ m, BitTime (lineLevel s.now) k m ∧ BitTime (lineLevel (s.now + 10)) m t.link)) ∧
    t = { s with
      frontEnd := t.frontEnd, lanes := t.lanes, matcher := t.matcher, slots := t.slots, carriers := t.carriers
      settlingIn := t.settlingIn, queue := t.queue, link := t.link, port := t.port, startUp := t.startUp, now := t.now }

/-- Every command completes in every state, at the timebase's present instant, and leaves the queue of commands alone: no rule
stops the part. That commands take no time is the model's choice (log 2). -/
def Obligations.EveryCommandCompletes : Prop :=
  ∀ (c : Instr) (s : State), ∃ t, exec c s = .next t ∧ t.pending = s.pending ∧ t.now = s.now

/-- The state after reset: STARTING after POWER_ON with the start delay at 25 ms and an INVALID marker, every block at the
values its own rule gives it at a restart, and every invariant of the model in force. That reset is the beginning of a
POWER_ON restart with VDD and RESETN high is the model's choice (log 4). -/
def Obligations.ResetIsClearedAndSound : Prop :=
  State.reset.startUp.node = .starting ∧ State.reset.startUp.cause = .powerOn ∧
    State.reset.startUp.startDelay = .running 25000 ∧ State.reset.startUp.markerValid = false ∧
    State.reset.startUp.storePhase = .none ∧
    State.reset.link.state = .off ∧ State.reset.link.driver = .released ∧ State.reset.link.recessiveCount = 0 ∧
    State.reset.link.spacing = false ∧ State.reset.link.receiver = .stopped ∧ State.reset.link.buffer = [] ∧
    State.reset.link.bits = [] ∧
    State.reset.link.flight = none ∧ State.reset.link.dominantTimer = 0 ∧ State.reset.link.health = 0 ∧
    State.reset.link.quarantineTimer = .stopped ∧ State.reset.link.addressConflict = false ∧
    State.reset.queue.requests = [] ∧ State.reset.queue.presenceTimer = .stopped ∧
    State.reset.queue.restartFlag = true ∧
    State.reset.port.command = .none ∧ State.reset.port.operation = .none ∧ State.reset.port.reply = none ∧
    State.reset.port.bitCount = 0 ∧ State.reset.port.result = .ok ∧ State.reset.port.detail = 0 ∧
    State.reset.frontEnd.mode = .fast ∧ State.reset.frontEnd.quietTimer = .stopped ∧
    State.reset.frontEnd.shockLatch = false ∧ State.reset.frontEnd.supplyHold = false ∧
    State.reset.frontEnd.excitation = .good ∧ State.reset.frontEnd.badRun = 0 ∧ State.reset.frontEnd.goodRun = 0 ∧
    (∀ l, (State.reset.lane l).warmUp = 8 ∧
      (State.reset.lane l).lastSample = { raw := 0, cls := .rawOnly, grams := none }) ∧
    State.reset.pending = [] ∧
    LanesBounded State.reset ∧ AlertsTimed State.reset ∧ LinkSound State.reset ∧ QueueSound State.reset ∧
    RestsOutsideRun State.reset ∧ ConfigSound State.reset ∧ CarriersSound State.reset ∧ IndicatorsShown State.reset

/-- Invariant: every lane stays within its ranges (sections 2.2, 3.1 and 3.3 to 3.9). -/
def Obligations.StepKeepsLanesBounded : Prop :=
  ∀ s t : State, LanesBounded s → step s = .next t → LanesBounded t

/-- Invariant: a slot's takeover, repeat and mute timers run in FOLLOWING, RAISED and MUTED and in no other state (sections 6.2
and 6.3). -/
def Obligations.StepKeepsAlertsTimed : Prop :=
  ∀ s t : State, AlertsTimed s → step s = .next t → AlertsTimed t

/-- Invariant: the health counter is 0 to 35, and below 32 in JOINING and ACTIVE; a frame is in flight only in ACTIVE; the
recessive count is 0 to 15 and the dominant timer 0 to 12, the frame buffer holds at most 17 characters, and bits of a character
are held IN CHARACTER alone, at most ten (sections 7.1, 7.3 and 7.5). -/
def Obligations.StepKeepsLinkSound : Prop :=
  ∀ s t : State, LinkSound s → step s = .next t → LinkSound t

/-- Invariant: the matcher's lists hold at most eight entries each, no two of one tag or of one station and tag, and the
transmit queue holds one request for each key, at most eight CLAIMs, an OFFER only for an entry that waits for it, and so at
most 38 requests (sections 4.2, 4.3 and 8.3). -/
def Obligations.StepKeepsQueueSound : Prop :=
  ∀ s t : State, QueueSound s → step s = .next t → QueueSound t ∧ t.queue.requests.length ≤ 38

/-- Invariant: outside RUN every block that works only in RUN is at rest (sections 1.9, 2.1, 3.1, 4.1, 5.1,
6.1, 7.6 and 8.4). -/
def Obligations.StepKeepsRestsOutsideRun : Prop :=
  ∀ s t : State, RestsOutsideRun s → step s = .next t → RestsOutsideRun t

/-- Invariant: the working copy, the running configuration and a VALID image stay within the ranges of section 9.1, and the
neighbour list never holds the node's own station (sections 9.4 to 9.6). -/
def Obligations.StepKeepsConfigSound : Prop :=
  ∀ s t : State, ConfigSound s → step s = .next t → ConfigSound t

/-- Invariant: the carrier table never holds two entries of one station and article, nor one of the node's own station, and
all entries of one station have one age and band (section 5.3). -/
def Obligations.StepKeepsCarriersSound : Prop :=
  ∀ s t : State, CarriersSound s → step s = .next t → CarriersSound t

/-- Invariant: every lane's indicator drive is the first row of the table of section 6.6 whose condition holds: OFF outside RUN
and for a lane not enabled; STEADY with the AUDIT or FAULT notice flag; FAST BLINK with the FOREIGN one; SLOW BLINK with the
article's slot RAISED or FOLLOWING; OFF otherwise. The outputs follow the drives and the indicator clock: fast 125 ms on and 125
ms off, slow 500 and 500, and off while the clock does not run. The status indicator (section 10.7) is off in STARTING, blinks
fast in CONFIGURING, and in RUN shows the link state: slow in JOINING and QUARANTINE, steady in ACTIVE, a double flash in
SILENCED. -/
def Obligations.StepKeepsIndicatorsShown : Prop :=
  (∀ s t : State, IndicatorsShown s → step s = .next t → IndicatorsShown t) ∧
  ∀ (s : State) (l : Lane),
    (∀ short : Bool, (short = true ↔ ∃ i, articleSlot s.running (articleOfLane s.running l) = some i ∧
        ((s.slot i).alert = .raised ∨ (s.slot i).alert = .following)) →
      s.indicatorOf l =
        if s.startUp.node ≠ .run ∨ laneEnabled s.running l = false then .off
        else if (s.lane l).notice.audit = true ∨ (s.lane l).notice.fault = true then .steady
        else if (s.lane l).notice.foreign = true then .fastBlink
        else if short = true then .slowBlink
        else .off) ∧
    s.statusDrive = (match s.startUp.node, s.link.state with
      | .starting, _ => .off
      | .configuring, _ => .fastBlink
      | .run, .joining => .slowBlink
      | .run, .quarantine => .slowBlink
      | .run, .active => .steady
      | .run, .silenced => .doubleFlash
      | .run, .off => .off) ∧
    (s.startUp.indicatorClock = none → s.laneIndicatorOn l = false ∧ s.statusIndicatorOn = false) ∧
    (∀ clock, s.startUp.indicatorClock = some clock →
      (s.laneIndicatorOn l = true ↔ (s.lane l).notice.indicator = .steady ∨
        (s.lane l).notice.indicator = .fastBlink ∧ clock % 250000 < 125000 ∨
        (s.lane l).notice.indicator = .slowBlink ∧ clock % 1000000 < 500000) ∧
      (s.statusIndicatorOn = true ↔ s.statusDrive = .steady ∨
        s.statusDrive = .fastBlink ∧ clock % 250000 < 125000 ∨
        s.statusDrive = .slowBlink ∧ clock % 1000000 < 500000 ∨
        s.statusDrive = .doubleFlash ∧
          (clock % 1000000 < 125000 ∨ 250000 ≤ clock % 1000000 ∧ clock % 1000000 < 375000)))

/-- The image and its marker change at the steps of a STORE and at nothing else: with no STORE in progress every command but
STORE leaves both, and STORE itself leaves the image; before its WRITING phase a STORE's end leaves the image too, unless that
is its last step; the last step alone makes the marker VALID (sections 10.3 and 10.4). -/
def Obligations.ImageAndMarkerChangeOnlyInStore : Prop :=
  ∀ (c : Instr) (s t : State), exec c s = .next t →
    (s.startUp.storePhase = .none → t.startUp.image = s.startUp.image) ∧
    (s.startUp.storePhase = .markerCleared → c ≠ .storeComplete → t.startUp.image = s.startUp.image) ∧
    (s.startUp.storePhase = .none → c ≠ .store → t.startUp.markerValid = s.startUp.markerValid) ∧
    (t.startUp.markerValid = true → s.startUp.markerValid = false → c = .storeComplete ∧ t.startUp.image = s.working) ∧
    (t.startUp.image ≠ s.startUp.image → t.startUp.markerValid = true → c = .storeComplete)

/-! ## Weighing front end -/

/-- ROUND_START at the end of the round timer with a CLEAR latch, in supply hold or not: the round timer starts at the period of
the scan mode, the round's lanes are the enabled ones, in CONFIGURING with the lane of a capture, and a lane that the round
before did not convert starts its warm-up; the comparator's output is inactive with no lane, and nothing else changes (sections
1.2, 1.4 and 1.7). In supply hold no conversion of a lane is due: the round is its excitation check, at which the hold may end.
That the comparator's lanes follow a capture's begin or end at the round is the model's choice (log 23). With the timer not run
out, or in STARTING, no round begins. -/
def Obligations.RoundStartBeginsTheRound : Prop :=
  ∀ s : State,
    (s.startUp.node = .starting ∨ s.frontEnd.roundTimer ≠ .running 0 → exec .roundStart s = .next s) ∧
    (s.startUp.node ≠ .starting → s.frontEnd.roundTimer = .running 0 → s.frontEnd.shockLatch = false →
      ∃ lanes t, exec .roundStart s = .next t ∧
        lanes = [Lane.l1, Lane.l2, Lane.l3, Lane.l4].filter (fun l =>
          if s.startUp.node = .run then (laneOf s.running l).enabled
          else (laneOf s.working l).enabled || decide (s.port.capture.map Capture.lane = some l)) ∧
        t.frontEnd = { s.frontEnd with
          roundTimer := .running (if s.frontEnd.mode = .fast then 20000 else 200000), sinceRound := 0, checkDue := true,
          conversionsDue := lanes, roundLanes := lanes, lateSample := none
          comparatorActive := s.frontEnd.comparatorActive && decide (lanes ≠ []) } ∧
        (∀ l, t.lane l =
          if l ∈ lanes ∧ l ∉ s.frontEnd.roundLanes then { s.lane l with warmUp := 8 } else s.lane l) ∧
        (s.frontEnd.supplyHold = true → ∀ l, t.conversionDue l = false) ∧
        t = { s with frontEnd := t.frontEnd, lanes := t.lanes })

/-- ROUND_START at the end of the round timer in RUN with a SET latch, in supply hold or not: the latch becomes CLEAR, every
enabled lane not in FAULT is HELD for 1,500 ms or for what remains of a longer hold, and a SHOCK request is placed, with the
spacing timer at 1,000 ms, unless that timer runs (sections 1.7 and 2.4). A lane that leaves STABLE so makes the mode FAST, and
any lane that becomes HELD stops the quiet timer (section 1.6). The round that begins then is that of the enabled lanes, as with
a CLEAR latch, in the mode that results (sections 1.2 and 1.4). -/
def Obligations.ConsumedLatchHoldsLanes : Prop :=
  ∀ s : State, s.startUp.node = .run → s.frontEnd.roundTimer = .running 0 → s.frontEnd.shockLatch = true →
    ∃ t lanes, exec .roundStart s = .next t ∧
      lanes = [Lane.l1, Lane.l2, Lane.l3, Lane.l4].filter (laneEnabled s.running) ∧
      (∀ l, laneEnabled s.running l = true →
        (s.lane l).settler.state = some .moving ∨ (s.lane l).settler.state = some .settling ∨
          (s.lane l).settler.state = some .stable →
        (t.lane l).settler = { (s.lane l).settler with
          state := some .held, window := [], settleCounter := 0, motionRun := 0, holdTimer := .running 1500000 }) ∧
      (∀ l, laneEnabled s.running l = true → (s.lane l).settler.state = some .held →
        (t.lane l).settler = { (s.lane l).settler with
          holdTimer := .running (max (s.lane l).settler.holdTimer.remaining 1500000) }) ∧
      (∀ l, laneEnabled s.running l = false ∨ (s.lane l).settler.state = some .fault →
        (t.lane l).settler = (s.lane l).settler) ∧
      (∀ l, t.lane l = { s.lane l with
        settler := (t.lane l).settler
        warmUp := if l ∈ lanes ∧ l ∉ s.frontEnd.roundLanes then 8 else (s.lane l).warmUp }) ∧
      (∀ left held : Bool,
        (left = true ↔ ∃ l, laneEnabled s.running l = true ∧ (s.lane l).settler.state = some .stable) →
        (held = true ↔ ∃ l, laneEnabled s.running l = true ∧
          ((s.lane l).settler.state = some .moving ∨ (s.lane l).settler.state = some .settling ∨
            (s.lane l).settler.state = some .stable)) →
        t.frontEnd = { s.frontEnd with
          mode := if left = true then .fast else s.frontEnd.mode
          quietTimer := if held = true then .stopped else s.frontEnd.quietTimer
          roundTimer := .running (if left = true ∨ s.frontEnd.mode = .fast then 20000 else 200000)
          sinceRound := 0, checkDue := true, conversionsDue := lanes, roundLanes := lanes, lateSample := none
          comparatorActive := s.frontEnd.comparatorActive && decide (lanes ≠ []), shockLatch := false
          spacingTimer := if s.frontEnd.spacingTimer = .stopped then .running 1000000 else s.frontEnd.spacingTimer }) ∧
      t.queue = (if s.frontEnd.spacingTimer = .stopped then (s.place .shock).queue else s.queue) ∧
      t = { s with frontEnd := t.frontEnd, lanes := t.lanes, queue := t.queue }

/-- ROUND_START at the end of the round timer in CONFIGURING with a SET latch (section 1.7), in supply hold or not: the latch
becomes CLEAR, a capture in progress ends with CAPTURE_FAILED, its calibration left unchanged, and no lane is held and no
request placed. The round that begins then is that of the lanes enabled in the working copy, as with a CLEAR latch: a lane
that the capture alone named is in it no longer. That the lanes of the round are taken after the latch has been consumed, and
that the comparator's sum follows them at the round start, is the model's reading and choice (log 5 and log 23). -/
def Obligations.ConfiguringLatchFailsCapture : Prop :=
  ∀ s : State, s.startUp.node = .configuring → s.frontEnd.roundTimer = .running 0 →
    s.frontEnd.shockLatch = true →
    ∃ t lanes, exec .roundStart s = .next t ∧
      lanes = [Lane.l1, Lane.l2, Lane.l3, Lane.l4].filter (laneEnabled s.working) ∧
      t.frontEnd = { s.frontEnd with
        roundTimer := .running (if s.frontEnd.mode = .fast then 20000 else 200000), sinceRound := 0, checkDue := true
        conversionsDue := lanes, roundLanes := lanes, lateSample := none, shockLatch := false
        comparatorActive := s.frontEnd.comparatorActive && decide (lanes ≠ []) } ∧
      (∀ l, t.lane l =
        if l ∈ lanes ∧ l ∉ s.frontEnd.roundLanes then { s.lane l with warmUp := 8 } else s.lane l) ∧
      (∀ c, s.port.capture = some c →
        t.port = { s.port with
          operation := .none, capture := none, result := .captureFailed, detail := c.lane.number }) ∧
      (s.port.capture = none → t.port = s.port) ∧
      t = { s with frontEnd := t.frontEnd, lanes := t.lanes, port := t.port }

/-- EXCITATION_CHECK outside supply hold (R13): GOOD from 0.7125 to 0.7875 of the supply, BAD otherwise and when saturated; a
GOOD check clears the bad-check run, a first BAD one makes it 1, and a second BAD one in a row begins supply hold with the run
at 0. During supply hold no bad-check run grows. -/
def Obligations.ExcitationCheckOutsideHold : Prop :=
  ∀ (s : State) (num : Int) (den : Nat), den ≠ 0 → s.frontEnd.checkDue = true →
    (s.frontEnd.supplyHold = true → ∀ r, ∃ t, exec (.excitationCheck r) s = .next t ∧
      (t.frontEnd.badRun = s.frontEnd.badRun ∨ t.frontEnd.badRun = 0)) ∧
    (s.frontEnd.supplyHold = false →
      (7125 * (den : Int) ≤ 10000 * num ∧ 10000 * num ≤ 7875 * (den : Int) →
        exec (.excitationCheck (.fraction num den)) s = .next { s with
          frontEnd := { s.frontEnd with checkDue := false, excitation := .good, badRun := 0 } }) ∧
      (∀ r, r = .saturated ∨
          r = .fraction num den ∧ (10000 * num < 7125 * (den : Int) ∨ 7875 * (den : Int) < 10000 * num) →
        (s.frontEnd.badRun = 0 → exec (.excitationCheck r) s = .next { s with
          frontEnd := { s.frontEnd with checkDue := false, excitation := .bad, badRun := 1 } }) ∧
        (1 ≤ s.frontEnd.badRun → exec (.excitationCheck r) s = .next (State.beginSupplyHold { s with
          frontEnd := { s.frontEnd with checkDue := false, excitation := .bad, badRun := 0 } }))))

/-- EXCITATION_CHECK during supply hold (R16): a check that is GOOD with VDD at or above the hold level adds 1 to the
good-check run, any other clears it; at 2 supply hold ends: the flag and both runs are cleared, every lane's warm-up count is
8, each lane that waits for the supply keeps HELD for 500 ms at the least, and the round's lane conversions proceed. The scan
mode and the quiet timer stay. A round that stays in hold is the check alone. -/
def Obligations.ExcitationCheckInHold : Prop :=
  ∀ (s : State) (r : ExcitationReading), s.frontEnd.checkDue = true → s.frontEnd.supplyHold = true →
    (excitationOf r = .good ∧ s.pins.vdd = .atHold →
      (s.frontEnd.goodRun = 0 → exec (.excitationCheck r) s = .next { s with
        frontEnd := { s.frontEnd with checkDue := false, excitation := .good, goodRun := 1, conversionsDue := [] } }) ∧
      (1 ≤ s.frontEnd.goodRun → ∃ t, exec (.excitationCheck r) s = .next t ∧
        t.frontEnd = { s.frontEnd with
          checkDue := false, excitation := .good, supplyHold := false, goodRun := 0, badRun := 0 } ∧
        (∀ l, t.lane l = { s.lane l with
          warmUp := 8
          settler := if (s.lane l).settler.supplyWait = true then
              { (s.lane l).settler with
                supplyWait := false, holdTimer := .running (max (s.lane l).settler.holdTimer.remaining 500000) }
            else (s.lane l).settler }) ∧
        t = { s with frontEnd := t.frontEnd, lanes := t.lanes })) ∧
    (excitationOf r = .bad ∨ s.pins.vdd ≠ .atHold → exec (.excitationCheck r) s = .next { s with
      frontEnd := { s.frontEnd with
        checkDue := false, excitation := excitationOf r, goodRun := 0, conversionsDue := [] } })

/-- DIP_FILTER_EXPIRY where supply hold begins (section 1.8): the flag is set, the good-check run 0, the mode FAST, the
conversions left in the round dropped. In RUN every enabled lane not in FAULT is HELD and waits for the supply. In CONFIGURING
a capture fails and a STORE ends with STORE_FAILED and the marker INVALID; the image is unchanged before the WRITING phase,
and in it what part had been written is open (log 3). While the hold lasts no frame starts, and a second cause has no further
effect. The quiet timer is left STOPPED by this event, in RUN with every enabled lane in FAULT too: the model's reading (log
6). That a capture's 32nd sample may fall together with the expiry, and is then remembered, is the model's form of R161 (log
28). -/
def Obligations.SupplyHoldBegins : Prop :=
  ∀ s : State, s.frontEnd.dipFilter = .running 0 →
    (s.frontEnd.supplyHold = true → exec .transmissionStart s = .next s) ∧
    (s.frontEnd.supplyHold = true → exec .dipFilterExpiry s = .next { s with
      frontEnd := { s.frontEnd with dipFilter := .stopped } }) ∧
    (s.frontEnd.supplyHold = false → s.startUp.node ≠ .starting →
      ∃ t, exec .dipFilterExpiry s = .next t ∧
        t.frontEnd = { s.frontEnd with
          dipFilter := .stopped, supplyHold := true, goodRun := 0, conversionsDue := [], mode := .fast,
          quietTimer := .stopped, lateSample := t.frontEnd.lateSample,
          roundTimer := if s.frontEnd.mode = .fast then s.frontEnd.roundTimer
            else .running (20000 - s.frontEnd.sinceRound) } ∧
        (∀ l, t.frontEnd.lateSample = some l ↔ s.startUp.node = .configuring ∧
          ∃ c, s.port.capture = some c ∧ c.lane = l ∧ c.samples = 31 ∧ (s.lane l).warmUp = 0 ∧
            s.conversionDue l = true) ∧
        (s.startUp.node = .run →
          (∀ l, laneEnabled s.running l = true → (s.lane l).settler.state ≠ some .fault →
            (s.lane l).settler.state ≠ none →
            (t.lane l).settler = if (s.lane l).settler.state = some .held then
                { (s.lane l).settler with supplyWait := true }
              else { (s.lane l).settler with
                state := some .held, window := [], settleCounter := 0, motionRun := 0, holdTimer := .stopped,
                supplyWait := true }) ∧
          (∀ l, laneEnabled s.running l = false ∨ (s.lane l).settler.state = some .fault → t.lane l = s.lane l) ∧
          (∀ l, t.lane l = { s.lane l with settler := (t.lane l).settler }) ∧
          t = { s with frontEnd := t.frontEnd, lanes := t.lanes }) ∧
        (s.startUp.node = .configuring →
          (s.port.operation = .none → t.port = s.port ∧ t.startUp = s.startUp) ∧
          (∀ c, s.port.operation = .captureZero ∨ s.port.operation = .captureSpan → s.port.capture = some c →
            t.port = { s.port with
              operation := .none, capture := none, result := .captureFailed, detail := c.lane.number } ∧
            t.startUp = s.startUp) ∧
          (s.port.operation = .store → s.startUp.storePhase = .markerCleared →
            t.port = { s.port with operation := .none, result := .storeFailed, detail := 0 } ∧
            t.startUp = { s.startUp with storePhase := .none, markerValid := false }) ∧
          (s.port.operation = .store → s.startUp.storePhase = .writing →
            t.port = { s.port with operation := .none, result := .storeFailed, detail := 0 } ∧
            t.startUp = { s.startUp with
              storePhase := .none, markerValid := false, image := t.startUp.image
              stoppedStores := s.startUp.stoppedStores + 1 }) ∧
          t = { s with frontEnd := t.frontEnd, port := t.port, startUp := t.startUp }))

/-- The dip filter (section 1.8): a fall of VDD below the hold level starts the filter at 2 ms unless it is RUNNING; VDD back
at the level stops it; at its expiry it is STOPPED and supply hold begins if it is not in force; it is not started again until
VDD has been back at the level. A filter that has not run out does not expire. A sample that falls together with the expiry,
which the model remembers (its choice, log 28), is of a capture in CONFIGURING alone. -/
def Obligations.DipFilterTimesDips : Prop :=
  ∀ s : State, s.startUp.node ≠ .starting →
    (s.pins.vdd = .atHold → s.frontEnd.dipFilter = .stopped → exec .vddBelowHoldLevel s = .next { s with
      pins := { s.pins with vdd := .belowHold }, frontEnd := { s.frontEnd with dipFilter := .running 2000 } }) ∧
    (∀ d, s.pins.vdd = .atHold → s.frontEnd.dipFilter = .running d → exec .vddBelowHoldLevel s = .next { s with
      pins := { s.pins with vdd := .belowHold } }) ∧
    (s.pins.vdd ≠ .atHold → exec .vddBelowHoldLevel s = .next s) ∧
    exec .vddAtHoldLevel s = .next { s with
      pins := { s.pins with vdd := .atHold }, frontEnd := { s.frontEnd with dipFilter := .stopped } } ∧
    (s.frontEnd.dipFilter ≠ .running 0 → exec .dipFilterExpiry s = .next s) ∧
    (s.frontEnd.dipFilter = .running 0 → s.frontEnd.supplyHold = true →
      exec .dipFilterExpiry s = .next { s with frontEnd := { s.frontEnd with dipFilter := .stopped } }) ∧
    (s.frontEnd.dipFilter = .running 0 → s.frontEnd.supplyHold = false →
      ∃ late, (s.startUp.node = .run → late = none) ∧
        exec .dipFilterExpiry s = .next (State.beginSupplyHold { s with
          frontEnd := { s.frontEnd with dipFilter := .stopped, lateSample := late } }))

/-- The comparator and the scan timers (sections 1.6, 1.7 and 9.4): the thresholds of shock levels 1 to 4 are 0.25, 0.5, 1 and
2 % of full scale per millisecond, the level that of the running configuration in RUN and of the working copy in CONFIGURING.
A rate above the threshold, in either direction, with a lane in the round takes an inactive output to active, sets the latch,
makes the mode FAST and stops the quiet timer; an output that stays active, a lower rate and a round without lanes set
nothing; a rate not above it returns the output to inactive. That the lanes are those of the round in progress, so that they
follow a capture's begin or end at the next round, is the model's choice (log 23). The spacing timer's expiry stops it; the
quiet timer's makes the mode SLOW. A change of mode reschedules the next round from the start of the most recent one. -/
def Obligations.ComparatorAndScanTimers : Prop :=
  ∀ s : State,
    (∀ (rate : SignalRate) (level threshold : Nat), rate.den ≠ 0 →
      level = (if s.startUp.node = .run then s.running.shockLevel else s.working.shockLevel) →
      level = 1 ∧ threshold = 25 ∨ level = 2 ∧ threshold = 50 ∨ level = 3 ∧ threshold = 100 ∨
        level = 4 ∧ threshold = 200 →
      (threshold * rate.den < 10000 * rate.num.natAbs →
        (s.frontEnd.comparatorActive = false → s.frontEnd.roundLanes ≠ [] →
          exec (.shockComparatorEdge rate) s = .next { s with
            frontEnd := { s.frontEnd with
              comparatorActive := true, shockLatch := true, mode := .fast, quietTimer := .stopped,
              roundTimer := if s.frontEnd.mode = .fast then s.frontEnd.roundTimer
                else .running (20000 - s.frontEnd.sinceRound) } }) ∧
        (s.frontEnd.comparatorActive = true ∨ s.frontEnd.roundLanes = [] →
          exec (.shockComparatorEdge rate) s = .next s) ∧
        exec (.comparatorOutputInactive rate) s = .next s) ∧
      (10000 * rate.num.natAbs ≤ threshold * rate.den →
        exec (.shockComparatorEdge rate) s = .next s ∧
        exec (.comparatorOutputInactive rate) s = .next { s with
          frontEnd := { s.frontEnd with comparatorActive := false } })) ∧
    (s.frontEnd.spacingTimer = .running 0 → exec .shockSpacingTimerExpiry s = .next { s with
      frontEnd := { s.frontEnd with spacingTimer := .stopped } }) ∧
    (s.frontEnd.spacingTimer ≠ .running 0 → exec .shockSpacingTimerExpiry s = .next s) ∧
    (s.frontEnd.quietTimer = .running 0 → exec .quietTimerExpiry s = .next { s with
      frontEnd := { s.frontEnd with
        mode := .slow, quietTimer := .stopped,
        roundTimer := if s.frontEnd.mode = .slow then s.frontEnd.roundTimer
          else .running (200000 - s.frontEnd.sinceRound) } }) ∧
    (s.frontEnd.quietTimer ≠ .running 0 → exec .quietTimerExpiry s = .next s)

/-- HOLD_TIMER_EXPIRY of an enabled lane in RUN: with the supply-wait flag clear the lane goes from HELD to MOVING with an
empty window, W and the known flag kept, and the scan mode is not changed; with the flag set the lane stays HELD and the timer
is STOPPED (section 2.4). A timer that has not run out, as one that a later hold has lengthened, does not expire. -/
def Obligations.HoldTimerExpiryReleasesLane : Prop :=
  ∀ (s : State) (l : Lane),
    ((s.lane l).settler.holdTimer ≠ .running 0 → exec (.holdTimerExpiry l) s = .next s) ∧
    (s.startUp.node = .run → laneEnabled s.running l = true → (s.lane l).settler.holdTimer = .running 0 →
      (s.lane l).settler.state = some .held →
      ∃ t, exec (.holdTimerExpiry l) s = .next t ∧
        (t.lane l).settler = (if (s.lane l).settler.supplyWait = true then
            { (s.lane l).settler with holdTimer := .stopped }
          else { (s.lane l).settler with
            state := some .moving, window := [], settleCounter := 0, motionRun := 0, holdTimer := .stopped }) ∧
        t.lane l = { s.lane l with settler := (t.lane l).settler } ∧ (∀ m, m ≠ l → t.lane m = s.lane m) ∧
        t.frontEnd = (if (s.lane l).settler.supplyWait = true then s.frontEnd
          else { s.frontEnd with quietTimer := .stopped }) ∧
        t = { s with frontEnd := t.frontEnd, lanes := t.lanes })

/-- The sample record of a SAMPLE_EVENT (section 1.3): its class and grams for every raw code, computed exactly and rounded
with an exact half away from zero, become the lane's last sample. The zero offset is the one in force, or the one before a
change that the lane's event before made when the arithmetic was done first, as R4 and R37 allow; in CONFIGURING it is 0. -/
def Obligations.GramSampleRule : Prop :=
  ∀ (s : State) (l : Lane) (code : BitVec 24) (first : Bool), Converts s l →
    ∃ t offset, exec (.sampleEvent l code first) s = .next t ∧
      offset = (if first = true then (s.lane l).counting.priorOffset.getD (s.lane l).counting.zeroOffset
        else (s.lane l).counting.zeroOffset) ∧
      (t.lane l).lastSample = sampleOf (laneOf s.config l) offset code ∧
      (∀ m, m ≠ l → (t.lane m).lastSample = (s.lane m).lastSample) ∧
      (RestsOutsideRun s → s.startUp.node = .configuring → offset = 0) ∧
      ∀ (r : LaneRecord) (o : Int),
        (sampleOf r o code).raw = code.toInt ∧
        (code.toInt = 8388607 → sampleOf r o code = { raw := code.toInt, cls := .over, grams := none }) ∧
        (code.toInt = -8388608 → sampleOf r o code = { raw := code.toInt, cls := .under, grams := none }) ∧
        (code.toInt ≠ 8388607 → code.toInt ≠ -8388608 →
          (r.spanCaptured = false → sampleOf r o code = { raw := code.toInt, cls := .rawOnly, grams := none }) ∧
          (r.spanCaptured = true → ∃ q : Int, RoundsTo ((code.toInt - r.zeroCode) * (r.span : Int)) 65536 q ∧
            (99999 < q - o → sampleOf r o code = { raw := code.toInt, cls := .over, grams := none }) ∧
            (q - o < -99999 → sampleOf r o code = { raw := code.toInt, cls := .under, grams := none }) ∧
            (-99999 ≤ q - o → q - o ≤ 99999 →
              sampleOf r o code = { raw := code.toInt, cls := .inRange, grams := some (q - o) })))

/-- SAMPLE_EVENT hands a sample on (sections 1.4 and 1.5): a warm-up sample becomes the last sample, lowers the warm-up count
and goes no further; in CONFIGURING with no capture on the lane a sample is the last sample only; in RUN a sample that brings
about no settle event and neither entry into nor exit from FAULT changes that lane's settler and nothing of any other block
but the front end. At an entry into FAULT or an exit (sections 2.5, 5.2, 6.5) the lane's FAULT notice flag follows with its
timer, a NOTICE request and the indicator; the uncertain flag of its article's slot is derived anew, and a change of it places
a STOCK request for a ready slot and evaluates the slot. A conversion that is not due has no sample. -/
def Obligations.SampleEventHandsOn : Prop :=
  ∀ (s : State) (l : Lane) (code : BitVec 24) (first : Bool),
    (s.conversionDue l = false → exec (.sampleEvent l code first) s = .next s) ∧
    (Converts s l → ∀ x, x = sampleOf (laneOf s.config l) ((s.lane l).counting.arithmeticOffset first) code →
      ∀ taken, taken = { s.lane l with
        lastSample := x, counting := { (s.lane l).counting with priorOffset := none } } →
      (0 < (s.lane l).warmUp → ∃ t, exec (.sampleEvent l code first) s = .next t ∧
        t.lane l = { taken with warmUp := (s.lane l).warmUp - 1 } ∧ (∀ m, m ≠ l → t.lane m = s.lane m) ∧
        t = { s with
          lanes := t.lanes
          frontEnd := { s.frontEnd with conversionsDue := s.frontEnd.conversionsDue.tail, lateSample := none } }) ∧
      ((s.lane l).warmUp = 0 → s.startUp.node = .configuring → s.port.capture.map Capture.lane ≠ some l →
        ∃ t, exec (.sampleEvent l code first) s = .next t ∧
          t.lane l = taken ∧ (∀ m, m ≠ l → t.lane m = s.lane m) ∧
          t = { s with
            lanes := t.lanes
            frontEnd := { s.frontEnd with conversionsDue := s.frontEnd.conversionsDue.tail, lateSample := none } }) ∧
      (∀ r after, (s.lane l).warmUp = 0 → s.startUp.node = .run → readingOf x = some r →
        after = (s.lane l).settler.take (laneOf s.running l) r → after.settles (laneOf s.running l) = false →
        ((after.state = some .fault ↔ (s.lane l).settler.state = some .fault) →
          ∃ t, exec (.sampleEvent l code first) s = .next t ∧
            t.lane l = { taken with settler := after } ∧ (∀ m, m ≠ l → t.lane m = s.lane m) ∧
            (after.state = (s.lane l).settler.state → t.frontEnd = { s.frontEnd with
              conversionsDue := s.frontEnd.conversionsDue.tail, lateSample := none }) ∧
            ((s.lane l).settler.state = some .stable → after.state = some .moving →
              t.frontEnd.mode = .fast ∧ (laneEnabled s.running l = true → t.frontEnd.quietTimer = .stopped)) ∧
            t = { s with lanes := t.lanes, frontEnd := t.frontEnd }) ∧
        (∀ fault, (after.state = some .fault ↔ fault = true) →
          ((s.lane l).settler.state = some .fault ↔ fault = false) →
          ∃ t q uncertain, exec (.sampleEvent l code first) s = .next t ∧
            q.lane l = { taken with
              settler := after
              notice := noticeAfter { (s.lane l).notice with fault := fault } (q.indicatorOf l) } ∧
            (∀ m, m ≠ l → q.lane m = s.lane m) ∧
            q = { s with lanes := q.lanes, queue := (s.place (.notice l)).queue } ∧
            UncertainOf q l uncertain ∧
            (∀ i, articleSlot s.running (articleOfLane s.running l) = some i →
              (uncertain = (s.slot i).uncertain → t = { q with frontEnd := t.frontEnd }) ∧
              (uncertain ≠ (s.slot i).uncertain → ∃ r : State,
                r.slot i = { s.slot i with uncertain := uncertain } ∧ (∀ j, j ≠ i → r.slot j = s.slot j) ∧
                r = { q with
                  slots := r.slots
                  queue := if (s.slot i).ready = true then (q.place (.stock i)).queue else q.queue } ∧
                t = { r.evaluate i with frontEnd := t.frontEnd })) ∧
            (articleSlot s.running (articleOfLane s.running l) = none → t = { q with frontEnd := t.frontEnd }) ∧
            t.frontEnd =
              if (s.lane l).settler.state = some .stable ∨ (s.lane l).settler.state = some .fault then
                { s.frontEnd with
                  conversionsDue := s.frontEnd.conversionsDue.tail, lateSample := none, mode := .fast
                  roundTimer := if s.frontEnd.mode = .fast then s.frontEnd.roundTimer
                    else .running (20000 - s.frontEnd.sinceRound)
                  quietTimer := if q.quiet = true then .running 120000000 else .stopped }
              else s.frontEnd.afterChange q.quiet)))

/-! ## Lane settler and count unit -/

/-- What a sample does to a settler (sections 2.2 to 2.5): in MOVING and SETTLING an IN-RANGE sample joins the window of the
newest eight, and a full window within the band B leads to SETTLING and counts towards Ks, any other window back to MOVING; in
STABLE two samples in a row beyond M of W, or OVER or UNDER, lead to MOVING; in HELD only the out-of-range run moves; a third
OVER or UNDER sample in a row leads to FAULT; sixteen IN-RANGE samples in a row lead out of it. -/
def Obligations.SettlerSampleTable : Prop :=
  ∀ (lr : LaneRecord) (t : Settler) (g : Int),
    (t.state = some .moving →
      (Close lr.band (joined t.window g) → t.take lr (.grams g) =
        { t with window := joined t.window g, outOfRangeRun := 0, state := some .settling, settleCounter := 1 }) ∧
      (¬ Close lr.band (joined t.window g) → t.take lr (.grams g) =
        { t with window := joined t.window g, outOfRangeRun := 0, settleCounter := 0 })) ∧
    (t.state = some .settling →
      (Close lr.band (joined t.window g) → t.take lr (.grams g) =
        { t with window := joined t.window g, outOfRangeRun := 0, settleCounter := t.settleCounter + 1 }) ∧
      (¬ Close lr.band (joined t.window g) → t.take lr (.grams g) =
        { t with window := joined t.window g, outOfRangeRun := 0, state := some .moving, settleCounter := 0 })) ∧
    (t.state = some .stable →
      ((g - t.reference).natAbs ≤ lr.motion → t.take lr (.grams g) =
        { t with window := joined t.window g, outOfRangeRun := 0, motionRun := 0 }) ∧
      (lr.motion < (g - t.reference).natAbs → t.motionRun = 0 → t.take lr (.grams g) =
        { t with window := joined t.window g, outOfRangeRun := 0, motionRun := 1 }) ∧
      (lr.motion < (g - t.reference).natAbs → t.motionRun = 1 → t.take lr (.grams g) =
        { t with window := joined t.window g, outOfRangeRun := 0, motionRun := 0, state := some .moving }) ∧
      (t.outOfRangeRun < 2 → t.motionRun = 0 → t.take lr .beyond =
        { t with outOfRangeRun := t.outOfRangeRun + 1, motionRun := 1 }) ∧
      (t.outOfRangeRun < 2 → t.motionRun = 1 → t.take lr .beyond =
        { t with outOfRangeRun := t.outOfRangeRun + 1, motionRun := 0, state := some .moving })) ∧
    (t.state = some .held →
      t.take lr (.grams g) = { t with outOfRangeRun := 0 } ∧
      (t.outOfRangeRun < 2 → t.take lr .beyond = { t with outOfRangeRun := t.outOfRangeRun + 1 })) ∧
    (t.state = some .moving → t.outOfRangeRun < 2 →
      t.take lr .beyond = { t with outOfRangeRun := t.outOfRangeRun + 1 }) ∧
    (t.state = some .settling → t.outOfRangeRun < 2 → t.take lr .beyond =
      { t with outOfRangeRun := t.outOfRangeRun + 1, state := some .moving, settleCounter := 0 }) ∧
    (t.state = some .moving ∨ t.state = some .settling ∨ t.state = some .stable ∨ t.state = some .held →
      t.outOfRangeRun = 2 → t.take lr .beyond =
        { t with
          state := some .fault, window := [], settleCounter := 0, motionRun := 0, outOfRangeRun := 0, inRangeRun := 0,
          holdTimer := .stopped, supplyWait := false }) ∧
    (t.state = some .fault →
      t.take lr .beyond = { t with inRangeRun := 0 } ∧
      (t.inRangeRun < 15 → t.take lr (.grams g) = { t with inRangeRun := t.inRangeRun + 1 }) ∧
      (t.inRangeRun = 15 → t.take lr (.grams g) =
        { t with
          state := some .moving, window := [], settleCounter := 0, motionRun := 0, inRangeRun := 0,
          outOfRangeRun := 0 }))

/-- The figures of a settle (R41, R42, with the acceptance of section 3.3): the effective weight E less the foreign grams, the
count E ÷ U rounded and clamped to 0 to 999, the residual, the tolerance T0 + n × Tu with Tu the ceiling of U × p ÷ 1,000, and
acceptance when the residual is at most the tolerance; a movement of some cases carries the tolerance of that number of cases,
at most 65,535. -/
def Obligations.SettleFiguresOfALane : Prop :=
  ∀ (r : LaneRecord) (filtered foreign : Int), LaneRanged r →
    ∃ tu : Nat,
      (∀ k : Nat, r.unitWeight * r.allowance ≤ 1000 * k ↔ tu ≤ k) ∧ (r.allowance = 0 → tu = 0) ∧ tu ≤ 6000 ∧
      (∃ q : Int, RoundsTo (filtered - foreign) r.unitWeight q ∧
        ((figuresOf r filtered foreign).n : Int) = max 0 (min 999 q)) ∧
      (figuresOf r filtered foreign).effective = filtered - foreign ∧
      (filtered < foreign → (figuresOf r filtered foreign).n = 0) ∧
      (1999 * (r.unitWeight : Int) ≤ 2 * (filtered - foreign) → (figuresOf r filtered foreign).n = 999) ∧
      (figuresOf r filtered foreign).residual =
        filtered - foreign - ((figuresOf r filtered foreign).n : Int) * (r.unitWeight : Int) ∧
      (figuresOf r filtered foreign).tolerance = r.baseTol + (figuresOf r filtered foreign).n * tu ∧
      (figuresOf r filtered foreign).tolerance ≤ 5996000 ∧
      ((figuresOf r filtered foreign).accepted = true ↔
        (figuresOf r filtered foreign).residual.natAbs ≤ (figuresOf r filtered foreign).tolerance) ∧
      ∀ (c : NodeConfig) (l : Lane) (cases : Nat), laneOf c l = r →
        (movementOf c l cases).tol = min 65535 (r.baseTol + cases * tu) ∧
        (movementOf c l cases).grams = cases * r.unitWeight

/-- A lane's first settle (section 3.5): a starting count with no movement. W is F, restated when zero tracking moves the
offset, the lane is known and STABLE, the doubt counter and AUDIT move, the report is FIRST, and no tally, no list of the
matcher and no other lane's count or settler changes. The count unit report then reaches the slot of the lane's article
(sections 3.8, 5.2 and 5.6): own holding, ready and uncertain flag, refresh timer and STOCK request, and the slot is evaluated
once, also where none of the three changes (log 30). -/
def Obligations.FirstSettleCountsWithoutMovement : Prop :=
  ∀ (s : State) (l : Lane) (code : BitVec 24) (first : Bool) (g : Int) (w : List Int), SettlesWith s l code first g w →
    (s.lane l).settler.known = false →
    ∃ t q r owed F f Z O, exec (.sampleEvent l code first) s = .next t ∧ RoundsTo w.sum 8 F ∧
      Counted s q l { raw := code.toInt, cls := .inRange, grams := some g } w F f Z O
        { outcome := .first, filtered := some F, effective := some f.effective, n := some f.n
          residual := some f.residual, tolerance := some f.tolerance, movement := none
          accepted := some f.accepted, zeroTracked := some Z } ∧
      Announced q r l owed ∧
      t = { State.evaluateAll r owed with frontEnd := s.frontEnd.afterChange q.quiet } ∧
      (∀ m, SameButIndicator (q.lane m) (t.lane m)) ∧ t.matcher = s.matcher

/-- A settle of a known lane that neither removes nor finds a foreign item (section 3.2, steps 3 to 6), with the grams of a
foreign record left out of the count: the count is that of the settle, the doubt counter goes down by 1 when it is accepted
and up otherwise, at 3 AUDIT is set and at 0 it is cleared, W and the zero offset follow as at a first settle, and the report
carries the movement (no accepted-or-rejected figure: log 29). Without a movement the matcher is left alone; a movement is
handed to it, and a decrease makes a pending-out entry of its cases, of eight entries the oldest first leaving. A movement or
a change of AUDIT makes the count unit report, and each slot that this (log 30) concerns is evaluated, and so is the
slot of an entry that leaves, of another article too, in slot order: the model's reading (log 11). -/
def Obligations.KnownSettleCountsAndMoves : Prop :=
  ∀ (s : State) (l : Lane) (code : BitVec 24) (first : Bool) (g : Int) (w : List Int), SettlesWith s l code first g w →
    (s.lane l).settler.known = true → ∀ F d, F = filteredWeight w → d = F - (s.lane l).settler.reference →
    (∀ r, (s.lane l).foreign = some r → ¬ (d < 0 ∧ (d + r.grams).natAbs ≤ r.tol + (laneOf s.running l).baseTol)) →
    ∀ f, f = figuresOf (laneOf s.running l) F (((s.lane l).foreign.map ForeignRecord.grams).getD 0) →
    f.accepted = true ∨ d ≤ 0 ∨ (s.lane l).foreign ≠ none ∨
      (∀ x ∈ s.matcher.pendingOut, ¬ (x.article ≠ articleOfLane s.running l ∧
        (d - (x.grams : Int)).natAbs ≤ x.tol + (laneOf s.running l).baseTol)) ∧
      (∀ x ∈ s.matcher.heard, ¬ (x.claimStatus = .none ∧ x.article ≠ articleOfLane s.running l ∧
        (d - (x.grams : Int)).natAbs ≤ x.tol + (laneOf s.running l).baseTol)) →
    ∀ n : Int, n = (f.n : Int) - ((s.lane l).counting.count : Int) →
    ∃ t q p moved r reported Z O, exec (.sampleEvent l code first) s = .next t ∧ RoundsTo w.sum 8 F ∧
      Counted s q l { raw := code.toInt, cls := .inRange, grams := some g } w F f Z O
        { outcome := if f.accepted = true then .accepted else .rejected
          filtered := some F, effective := some f.effective, n := some f.n, residual := some f.residual
          tolerance := some f.tolerance, movement := some n, accepted := none
          zeroTracked := if f.accepted = true then some Z else none } ∧
      (n = 0 → p = q) ∧ (n ≠ 0 → p = (q.handMovement l n).1) ∧
      (∀ i, i ∈ moved ↔ n < 0 ∧ 8 ≤ s.matcher.pendingOut.length ∧
        ∃ e, s.matcher.pendingOut.head? = some e ∧ articleSlot s.running e.article = some i) ∧
      (n = 0 → (q.lane l).counting.audit = (s.lane l).counting.audit → r = p ∧ reported = []) ∧
      (n ≠ 0 ∨ (q.lane l).counting.audit ≠ (s.lane l).counting.audit → Announced p r l reported) ∧
      t = { State.evaluateAll r (moved ++ reported) with frontEnd := s.frontEnd.afterChange q.quiet } ∧
      (n = 0 → t.matcher = s.matcher ∧ ∀ m, (t.lane m).counting.tallies = (s.lane m).counting.tallies) ∧
      (n < 0 → ListsSound s → ∃ e,
        t.matcher.pendingOut = (if s.matcher.pendingOut.length < 8 then s.matcher.pendingOut
          else s.matcher.pendingOut.tail) ++ [e] ∧
        t.matcher.heard = s.matcher.heard ∧ t.matcher.tagCounter = e.tag + 1 ∧
        e.article = articleOfLane s.running l ∧ e.lane = l ∧ (e.count : Int) = -n ∧
        e.grams = e.count * (laneOf s.running l).unitWeight ∧
        e.tol = min 65535 (tolerance (laneOf s.running l) e.count) ∧
        e.remaining = s.running.matchWindow * 1000000 ∧ e.status = .queued ∧
        (.offer e.tag) ∈ t.queue.requests.map Request.key) ∧
      (∀ m, SameButTallies (q.lane m) (t.lane m))

/-- Foreign items (sections 3.6 and 4.6): a rejected rise of a known lane without a foreign record that fits the weight of an
own pending-out entry of another article, or else of an unclaimed heard offer, sets the lane's foreign record from the offer
with Gf = ΔF and raises FOREIGN-SEEN, the count staying. The own entry leaves as RELOCATED-OUT, its OFFER is withdrawn unless
sent, a CLAIM of type FOREIGN cancels one that may have been heard while fewer than 8 CLAIMs are held, and the slot of the
entry's article is evaluated; the heard offer is claimed with type FOREIGN while there is room. A fall that fits the foreign
record clears it, count and tallies staying. The lane is STABLE with W = F in all three, and the FOREIGN notice flag follows
with its timer, a NOTICE request and the indicator; nothing else changes. -/
def Obligations.ForeignItemSetsAndClearsRecord : Prop :=
  ∀ (s : State) (l : Lane) (code : BitVec 24) (first : Bool) (g : Int) (w : List Int), SettlesWith s l code first g w →
    (s.lane l).settler.known = true → ∀ F d, F = filteredWeight w → d = F - (s.lane l).settler.reference →
    ∀ settled : Option ForeignRecord → SettleReport → IndicatorDrive → LaneUnit, settled = (fun record report shown =>
      { s.lane l with
        lastSample := { raw := code.toInt, cls := .inRange, grams := some g }
        settler := { (s.lane l).settler with
          state := some .stable, settleCounter := 0, motionRun := 0, outOfRangeRun := 0, reference := F, window := w }
        counting := { (s.lane l).counting with report := report, priorOffset := none }
        foreign := record
        notice := noticeAfter { (s.lane l).notice with foreign := record.isSome } shown }) →
    ((s.lane l).foreign = none → ∀ f, f = figuresOf (laneOf s.running l) F 0 → f.accepted = false → 0 < d →
      ∀ seen : Tallies, seen = { (s.lane l).counting.tallies with
        foreignSeen := min 65535 ((s.lane l).counting.tallies.foreignSeen + 1) } →
      ∀ report : SettleReport, report =
        { outcome := .foreignSet, filtered := some F, effective := some f.effective, n := some f.n
          residual := some f.residual, tolerance := some f.tolerance, movement := none, accepted := none
          zeroTracked := none } →
      (∀ e, s.matcher.pendingOut.find? (fun e => decide (e.article ≠ articleOfLane s.running l) &&
          decide ((d - (e.grams : Int)).natAbs ≤ e.tol + (laneOf s.running l).baseTol)) = some e →
        ∃ t r a b c base, exec (.sampleEvent l code first) s = .next t ∧
          a = s.place (.notice l) ∧ b = (if e.status = .sent then a else a.withdraw (.offer e.tag)) ∧
          c = (if e.status ≠ .queued ∧ claimsHeld s.queue.requests < 8 then
            b.placeClaim s.running.station e.tag .foreign else b) ∧
          base = settled (some { article := e.article, grams := d, origin := s.running.station, tag := e.tag, tol := e.tol })
            report (r.indicatorOf l) ∧
          r.lane l = { base with counting := { base.counting with
            tallies := if e.lane = l then
                { seen with relocatedOut := min 65535 (seen.relocatedOut + e.count) } else seen } } ∧
          (e.lane ≠ l → r.lane e.lane = { s.lane e.lane with counting := { (s.lane e.lane).counting with
            tallies := { (s.lane e.lane).counting.tallies with
              relocatedOut := min 65535 ((s.lane e.lane).counting.tallies.relocatedOut + e.count) } } }) ∧
          (∀ m, m ≠ l → m ≠ e.lane → r.lane m = s.lane m) ∧
          r.matcher = { s.matcher with
            pendingOut := s.matcher.pendingOut.filter (fun x => decide (x.tag ≠ e.tag)) } ∧
          r = { s with lanes := r.lanes, matcher := r.matcher, queue := c.queue, link := c.link } ∧
          t = { State.evaluateAll r (articleSlot s.running e.article).toList with
            frontEnd := s.frontEnd.afterChange r.quiet }) ∧
      (∀ e, (∀ x ∈ s.matcher.pendingOut, ¬ (x.article ≠ articleOfLane s.running l ∧
            (d - (x.grams : Int)).natAbs ≤ x.tol + (laneOf s.running l).baseTol)) →
          s.matcher.heard.find? (fun e => decide (e.claimStatus = .none) &&
            decide (e.article ≠ articleOfLane s.running l) &&
            decide ((d - (e.grams : Int)).natAbs ≤ e.tol + (laneOf s.running l).baseTol)) = some e →
        ∃ t a base, exec (.sampleEvent l code first) s = .next t ∧ a = s.place (.notice l) ∧
          base = settled (some { article := e.article, grams := d, origin := e.station, tag := e.tag, tol := e.tol })
            report (t.indicatorOf l) ∧
          t.lane l = { base with counting := { base.counting with tallies := seen } } ∧
          (∀ m, m ≠ l → t.lane m = s.lane m) ∧
          (claimsHeld s.queue.requests < 8 →
            t.queue = (a.placeClaim e.station e.tag .foreign).queue ∧
            t.matcher = { s.matcher with heard := s.matcher.heard.map (fun x =>
              if x.station = e.station ∧ x.tag = e.tag then
                { x with claimStatus := .queued, claimType := some .foreign, claimLane := none }
              else x) }) ∧
          (8 ≤ claimsHeld s.queue.requests → t.queue = a.queue ∧ t.matcher = s.matcher) ∧
          t = { s with
            lanes := t.lanes, matcher := t.matcher, queue := t.queue
            frontEnd := s.frontEnd.afterChange t.quiet })) ∧
    (∀ r, (s.lane l).foreign = some r → d < 0 → (d + r.grams).natAbs ≤ r.tol + (laneOf s.running l).baseTol →
      ∃ t, exec (.sampleEvent l code first) s = .next t ∧
        t.lane l = settled none
          { outcome := .foreignCleared, filtered := some F, effective := none, n := none, residual := none
            tolerance := none, movement := none, accepted := none, zeroTracked := none } (t.indicatorOf l) ∧
        (∀ m, m ≠ l → t.lane m = s.lane m) ∧
        t = { s with
          lanes := t.lanes, queue := (s.place (.notice l)).queue
          frontEnd := s.frontEnd.afterChange t.quiet })

/-- A lane's count, doubt counter, AUDIT flag, zero offset and last report change at that lane's own sample events, and
otherwise only with the clearing of its count unit at a restart or at an entry into RUN (sections 3.1, 3.2 and 3.7). -/
def Obligations.CountUnitChangesOnlyAtItsOwnSamples : Prop :=
  ∀ (c : Instr) (s t : State) (l : Lane), exec c s = .next t → (∀ code first, c ≠ .sampleEvent l code first) →
    ((t.lane l).counting.count = (s.lane l).counting.count ∧
        (t.lane l).counting.doubt = (s.lane l).counting.doubt ∧
        (t.lane l).counting.audit = (s.lane l).counting.audit ∧
        (t.lane l).counting.zeroOffset = (s.lane l).counting.zeroOffset ∧
        (t.lane l).counting.priorOffset = (s.lane l).counting.priorOffset ∧
        (t.lane l).counting.report = (s.lane l).counting.report) ∨
      ((t.lane l).counting = CountUnit.cleared ∧
        (c = .start ∨ c = .startDecision ∨ c = .restart ∨ c = .supplyDip ∨ c = .pin ∨ ∃ b, c = .powerOn b))

/-! ## Movement matcher -/

/-- The tag of a new pending-out entry (R58): the first value from the tag counter on, 255 followed by 0, that no entry
carries, found within nine values; the counter becomes the value after it. The counter is 0 at RUN entry, and READ STATUS
reports it. -/
def Obligations.FreshTagChosen : Prop :=
  ∀ (s : State) (m : Movement), s.matcher.pendingOut.length ≤ 8 →
    (∃ e k, (s.createPending m).matcher.pendingOut = s.matcher.pendingOut ++ [e] ∧ k ≤ 8 ∧
      e.tag = s.matcher.tagCounter + BitVec.ofNat 8 k ∧
      e.tag ∉ s.matcher.pendingOut.map PendingOut.tag ∧
      (∀ j, j < k → s.matcher.tagCounter + BitVec.ofNat 8 j ∈ s.matcher.pendingOut.map PendingOut.tag) ∧
      (s.createPending m).matcher.tagCounter = e.tag + 1) ∧
    (∀ c, (s.enterRun c).matcher.tagCounter = 0) ∧
    s.statusReply[12]? = some s.matcher.tagCounter

/-- A movement at the matcher (sections 4.2 and 4.4): a decrease with a full list first removes the oldest entry as PICK; a
rise is matched with the oldest own entry of its article and cases, which leaves as RELOCATED-OUT with a cancelling CLAIM if
its OFFER may have been heard; else with the oldest unclaimed heard offer, which is claimed when fewer than 8 CLAIMs are held;
else it is RESTOCK-IN. -/
def Obligations.MovementsReachTheMatcher : Prop :=
  ∀ (s : State) (l : Lane) (n : Nat) (m : Movement), QueueSound s → 0 < n → m = movementOf s.running l n →
    (∀ e rest, s.matcher.pendingOut = e :: rest → rest.length = 7 → ∃ x,
      (s.handMovement l (-(n : Int))).1.matcher.pendingOut = rest ++ [x] ∧ x.article = m.article ∧ x.count = n ∧
      x.status = .queued ∧
      ((s.handMovement l (-(n : Int))).1.lane e.lane).counting.tallies.picks =
        min 65535 ((s.lane e.lane).counting.tallies.picks + e.count)) ∧
    (∀ e, s.matcher.pendingOut.find? (fun e => decide (e.article = m.article) && decide (e.count = n)) = some e →
      (s.handMovement l (n : Int)).1.matcher.pendingOut =
        s.matcher.pendingOut.filter (fun x => decide (x.tag ≠ e.tag)) ∧
      (s.handMovement l (n : Int)).1.matcher.heard = s.matcher.heard ∧
      ((s.handMovement l (n : Int)).1.lane l).counting.tallies.matchedIn =
        min 65535 ((s.lane l).counting.tallies.matchedIn + n) ∧
      ((s.handMovement l (n : Int)).1.lane e.lane).counting.tallies.relocatedOut =
        min 65535 ((s.lane e.lane).counting.tallies.relocatedOut + e.count) ∧
      (e.status = .queued → (s.handMovement l (n : Int)).1.queue.requests =
        s.queue.requests.filter (fun r => decide (r.key ≠ .offer e.tag))) ∧
      (e.status ≠ .queued → s.claimRoom = true →
        (.claim s.running.station e.tag) ∈ (s.handMovement l (n : Int)).1.queue.requests.map Request.key)) ∧
    ((∀ e ∈ s.matcher.pendingOut, ¬ (e.article = m.article ∧ e.count = n)) →
      (∀ e, s.matcher.heard.find? (fun e => decide (e.article = m.article) && decide (e.count = n) &&
          decide (e.claimStatus = .none)) = some e →
        (s.claimRoom = true →
          (s.handMovement l (n : Int)).1.matcher.heard = s.matcher.heard.map (fun x =>
            if x.station = e.station ∧ x.tag = e.tag then
              { x with claimStatus := .queued, claimType := some .relocation, claimLane := some l }
            else x) ∧
          (.claim e.station e.tag) ∈ (s.handMovement l (n : Int)).1.queue.requests.map Request.key ∧
          ((s.handMovement l (n : Int)).1.lane l).counting.tallies =
            { (s.lane l).counting.tallies with
              matchedIn := min 65535 ((s.lane l).counting.tallies.matchedIn + n) }) ∧
        (s.claimRoom = false →
          (s.handMovement l (n : Int)).1.matcher = s.matcher ∧ (s.handMovement l (n : Int)).1.queue = s.queue ∧
          ((s.handMovement l (n : Int)).1.lane l).counting.tallies =
            { (s.lane l).counting.tallies with
              restockIn := min 65535 ((s.lane l).counting.tallies.restockIn + n) })) ∧
      ((∀ e ∈ s.matcher.heard, ¬ (e.article = m.article ∧ e.count = n ∧ e.claimStatus = .none)) →
        (s.handMovement l (n : Int)).1.matcher = s.matcher ∧ (s.handMovement l (n : Int)).1.queue = s.queue ∧
        ((s.handMovement l (n : Int)).1.lane l).counting.tallies =
          { (s.lane l).counting.tallies with
            restockIn := min 65535 ((s.lane l).counting.tallies.restockIn + n) }))

/-- PENDING_OUT_EXPIRY and HEARD_OFFER_EXPIRY of an entry whose window has ended (sections 4.2 and 4.3): a pending-out entry
leaves as PICK and its OFFER is withdrawn unless sent; a heard offer leaves, a QUEUED claim of it is withdrawn and its rise
moved from MATCHED-IN to RESTOCK-IN. The slot of the article is then evaluated (section 4.7), and nothing else changes. An
entry whose window runs, or none of that name, does not expire. -/
def Obligations.OfferEntriesExpire : Prop :=
  ∀ s : State,
    (∀ (tag : Byte) (e : PendingOut),
      s.matcher.pendingOut.find? (fun e => decide (e.tag = tag)) = some e →
      (e.remaining ≠ 0 → exec (.pendingOutExpiry tag) s = .next s) ∧
      (e.remaining = 0 → ∃ r : State,
        exec (.pendingOutExpiry tag) s = .next (r.evaluateAll (articleSlot s.running e.article).toList) ∧
        r.matcher = { s.matcher with
          pendingOut := s.matcher.pendingOut.filter (fun x => decide (x.tag ≠ tag)) } ∧
        r.lane e.lane = { s.lane e.lane with
          counting := { (s.lane e.lane).counting with
            tallies := { (s.lane e.lane).counting.tallies with
              picks := min 65535 ((s.lane e.lane).counting.tallies.picks + e.count) } } } ∧
        (∀ m, m ≠ e.lane → r.lane m = s.lane m) ∧
        r = { s with
          lanes := r.lanes, matcher := r.matcher
          queue := if e.status = .sent then s.queue else (s.withdraw (.offer tag)).queue
          link := if e.status = .sent then s.link else (s.withdraw (.offer tag)).link })) ∧
    (∀ tag : Byte, (∀ e ∈ s.matcher.pendingOut, e.tag ≠ tag) →
      exec (.pendingOutExpiry tag) s = .next s) ∧
    (∀ (station : Nat) (tag : Byte) (e : HeardOffer),
      s.matcher.heard.find? (fun e => decide (e.station = station) && decide (e.tag = tag)) = some e →
      (e.remaining ≠ 0 → exec (.heardOfferExpiry station tag) s = .next s) ∧
      (e.remaining = 0 → ∃ r : State, r = s.dropHeard e ∧
        exec (.heardOfferExpiry station tag) s = .next (r.evaluateAll (articleSlot s.running e.article).toList) ∧
        r.matcher = { s.matcher with
          heard := s.matcher.heard.filter (fun x => !(decide (x.station = station) && decide (x.tag = tag))) } ∧
        (∀ l, e.claimStatus = .queued → e.claimType = some .relocation → e.claimLane = some l →
          r.lane l = { s.lane l with
            counting := { (s.lane l).counting with
              tallies := { (s.lane l).counting.tallies with
                matchedIn := (s.lane l).counting.tallies.matchedIn - e.count
                restockIn := min 65535 ((s.lane l).counting.tallies.restockIn + e.count) } } } ∧
          ∀ m, m ≠ l → r.lane m = s.lane m) ∧
        (¬ (e.claimStatus = .queued ∧ e.claimType = some .relocation ∧ e.claimLane.isSome = true) →
          r.lanes = s.lanes) ∧
        r = { s with
          lanes := r.lanes, matcher := r.matcher
          queue := if e.claimStatus = .queued then (s.withdraw (.claim station tag)).queue else s.queue
          link := if e.claimStatus = .queued then (s.withdraw (.claim station tag)).link else s.link })) ∧
    (∀ (station : Nat) (tag : Byte), (∀ e ∈ s.matcher.heard, ¬ (e.station = station ∧ e.tag = tag)) →
      exec (.heardOfferExpiry station tag) s = .next s)

/-- OFFER_RECEPTION (sections 4.3 and 8.2). The node's own OFFER, and one of a sender outside 1 to 120, only refresh the
sender's carrier entries. From another station an offer of no article, no cases or no window is not entered; any other joins
the heard-offer list as its newest entry, unclaimed, with its window at most 120 s, after an entry of the same station and tag
has left, and of eight entries the oldest, each as an expired entry leaves. The slots of the offer's article and of those that
left are evaluated, and those of the sender's entries that were STALE (sections 4.7 and 5.4). The pending-out list and the
counts stay. -/
def Obligations.OfferReceptionEntersList : Prop :=
  ∀ (s : State) (station tag : Byte) (article : Article) (count : BitVec 16) (grams : BitVec 24) (tol : BitVec 16)
    (window : Byte) (frame : Frame), frame = { station := station, payload := .offer tag article count grams tol window } →
    (∀ link, OwnDelivery s frame link → RefreshOnly s frame link
      (exec (.offerReception station tag article count grams tol window) s)) ∧
    (OutsideFrame s frame → RefreshOnly s frame (s.link.received frame)
      (exec (.offerReception station tag article count grams tol window) s)) ∧
    (PeerFrame s frame → ListsSound s →
    ∃ (r base : State) (owed : List Slot),
      exec (.offerReception station tag article count grams tol window) s = .next (r.evaluateAll owed) ∧
      Refreshed s station.toNat base.carriers ∧
      base = { s with carriers := base.carriers, link := s.link.received frame } ∧
      (article = 0 ∨ count = 0 ∨ window = 0 → r = base ∧ ∀ i, i ∈ owed ↔ OwedByRefresh s station.toNat i) ∧
      (article ≠ 0 → count ≠ 0 → window ≠ 0 → ∃ others gone,
        others = s.matcher.heard.filter (fun x => !(decide (x.station = station.toNat) && decide (x.tag = tag))) ∧
        gone = s.matcher.heard.filter (fun x => decide (x.station = station.toNat) && decide (x.tag = tag)) ++
          (if others.length < 8 then [] else others.take 1) ∧
        r = { gone.foldl State.dropHeard base with
          matcher := { s.matcher with
            heard := (if others.length < 8 then others else others.tail) ++
              [{ station := station.toNat, tag := tag, article := article.toNat, count := count.toNat,
                 grams := grams.toNat, tol := tol.toNat, remaining := min 120 window.toNat * 1000000,
                 claimStatus := .none, claimType := none, claimLane := none }] } } ∧
        ∀ i, i ∈ owed ↔ OwedByRefresh s station.toNat i ∨ articleSlot s.running article.toNat = some i ∨
          ∃ e ∈ gone, articleSlot s.running e.article = some i) ∧
      (∀ l, SameButTallies (s.lane l) (r.lane l)) ∧ r.slots = s.slots ∧
      r = { s with
        lanes := r.lanes, matcher := r.matcher, carriers := base.carriers,
        queue := { s.queue with requests := r.queue.requests }, link := r.link })

/-- CLAIM_RECEPTION (sections 4.2 and 4.3). A claim of another station on an own entry removes it as RELOCATED-OUT; on a heard
offer it removes the entry, withdraws a QUEUED claim of this node and moves its RELOCATION rise to RESTOCK-IN; on neither it
leaves the lists. The node's own claim on a heard offer removes the entry and leaves the tallies. The slot of an entry that
leaves is evaluated (section 4.7), and those of the sender's entries that were STALE. A CLAIM whose sender or offer station is
outside 1 to 120, or whose type is neither RELOCATION nor FOREIGN, only refreshes the sender's carrier entries (section 8.2),
the node's own too, and so does the node's own cancelling CLAIM, which names its own station. -/
def Obligations.ClaimReceptionDecidesEntries : Prop :=
  ∀ (s : State) (station offerStation tag type : Byte) (frame : Frame),
    frame = { station := station, payload := .claim offerStation tag type } →
    (OutsideFrame s frame ∨ PeerFrame s frame ∧ ¬ ClaimHanded offerStation type → RefreshOnly s frame (s.link.received frame)
      (exec (.claimReception station offerStation tag type) s)) ∧
    (∀ link, OwnDelivery s frame link →
      station.toNat = 0 ∨ 120 < station.toNat ∨ ¬ ClaimHanded offerStation type ∨ offerStation = s.ownStation →
      RefreshOnly s frame link (exec (.claimReception station offerStation tag type) s)) ∧
    (PeerFrame s frame → ClaimHanded offerStation type → ∃ (r base : State) (owed : List Slot),
      exec (.claimReception station offerStation tag type) s = .next (r.evaluateAll owed) ∧
      Refreshed s station.toNat base.carriers ∧
      base = { s with carriers := base.carriers, link := s.link.received frame } ∧
      (offerStation = s.ownStation →
        (∀ e, s.matcher.pendingOut.find? (fun e => decide (e.tag = tag)) = some e →
          r = base.removePending e .relocatedOut ∧
          (∀ i, i ∈ owed ↔ OwedByRefresh s station.toNat i ∨ articleSlot s.running e.article = some i) ∧
          r.matcher = { s.matcher with
            pendingOut := s.matcher.pendingOut.filter (fun x => decide (x.tag ≠ tag)) } ∧
          (r.lane e.lane).counting.tallies = { (s.lane e.lane).counting.tallies with
            relocatedOut := min 65535 ((s.lane e.lane).counting.tallies.relocatedOut + e.count) } ∧
          (∀ m, m ≠ e.lane → r.lane m = s.lane m) ∧
          (e.status ≠ .sent → (.offer tag) ∉ r.queue.requests.map Request.key) ∧
          (e.status = .sent → r.queue = s.queue)) ∧
        ((∀ e ∈ s.matcher.pendingOut, e.tag ≠ tag) → r = base ∧
          ∀ i, i ∈ owed ↔ OwedByRefresh s station.toNat i)) ∧
      (offerStation ≠ s.ownStation →
        (∀ e, s.matcher.heard.find?
            (fun e => decide (e.station = offerStation.toNat) && decide (e.tag = tag)) = some e →
          r = base.dropHeard e ∧
          (∀ i, i ∈ owed ↔ OwedByRefresh s station.toNat i ∨ articleSlot s.running e.article = some i) ∧
          r.matcher = { s.matcher with
            heard := s.matcher.heard.filter
              (fun x => !(decide (x.station = offerStation.toNat) && decide (x.tag = tag))) } ∧
          (e.claimStatus = .queued → (.claim offerStation.toNat tag) ∉ r.queue.requests.map Request.key) ∧
          (∀ l, e.claimStatus = .queued → e.claimType = some .relocation → e.claimLane = some l →
            (r.lane l).counting.tallies = { (s.lane l).counting.tallies with
              matchedIn := (s.lane l).counting.tallies.matchedIn - e.count
              restockIn := min 65535 ((s.lane l).counting.tallies.restockIn + e.count) }) ∧
          (e.claimStatus ≠ .queued → r.lanes = s.lanes ∧ r.queue = s.queue)) ∧
        ((∀ e ∈ s.matcher.heard, ¬ (e.station = offerStation.toNat ∧ e.tag = tag)) → r = base ∧
          ∀ i, i ∈ owed ↔ OwedByRefresh s station.toNat i)) ∧
      (∀ l, SameButTallies (s.lane l) (r.lane l)) ∧
      r = { s with
        lanes := r.lanes, matcher := r.matcher, carriers := base.carriers,
        queue := { s.queue with requests := r.queue.requests }, link := r.link }) ∧
    (∀ link, OwnDelivery s frame link → 1 ≤ station.toNat → station.toNat ≤ 120 → ClaimHanded offerStation type →
      offerStation ≠ s.ownStation → ∃ (r : State) (owed : List Slot),
        exec (.claimReception station offerStation tag type) s = .next (r.evaluateAll owed) ∧
        Refreshed s station.toNat r.carriers ∧
        r.matcher = { s.matcher with
          heard := s.matcher.heard.filter
            (fun x => !(decide (x.station = offerStation.toNat) && decide (x.tag = tag))) } ∧
        (∀ i, i ∈ owed ↔ OwedByRefresh s station.toNat i ∨ ∃ e,
          s.matcher.heard.find?
            (fun e => decide (e.station = offerStation.toNat) && decide (e.tag = tag)) = some e ∧
          articleSlot s.running e.article = some i) ∧
        r = { s with
          matcher := r.matcher, carriers := r.carriers, link := link })

/-- PRESENCE_RECEPTION (sections 4.3, 5.3, 5.6 and 8.4). From another station, of any number, with the restart flag set, the
station's carrier entries and heard offers leave, these as expired entries do, a STOCK request is placed for every ready
article slot, and the slots of all that left are evaluated; with the flag clear the station's entries are refreshed, with the
evaluations that owes, and no list of the matcher changes. The node's own frame with the flag set places the STOCK requests
too and purges nothing. The pending-out list, the counts and the foreign records stay in all. -/
def Obligations.PresenceRestartFlagPurges : Prop :=
  ∀ (s : State) (station restartByte health : Byte) (frame : Frame),
    frame = { station := station, payload := .presence restartByte health } →
    ∀ stocks : State → State, stocks = (fun b =>
      (articleSlots s.running).foldl (fun q i => if (s.slot i).ready = true then q.place (.stock i) else q) b) →
    (PeerFrame s frame ∨ OutsideFrame s frame → ∃ (r base : State) (owed : List Slot),
      exec (.presenceReception station restartByte health) s = .next (r.evaluateAll owed) ∧
      base = { s with carriers := base.carriers, link := s.link.received frame } ∧
      (restartByte.getLsbD 7 = true →
        (∀ p : Fin 32, base.carriers[p] = match s.carriers[p] with
          | some e => if e.station = station.toNat then none else some e
          | none => none) ∧
        r = (s.matcher.heard.filter fun e => decide (e.station = station.toNat)).foldl State.dropHeard (stocks base) ∧
        r.matcher = { s.matcher with
          heard := s.matcher.heard.filter (fun e => decide (e.station ≠ station.toNat)) } ∧
        (∀ i, slotClass s.running i = .article → (s.slot i).ready = true →
          (.stock i) ∈ r.queue.requests.map Request.key) ∧
        (∀ e ∈ s.matcher.heard, e.station = station.toNat → e.claimStatus = .queued →
          (.claim e.station e.tag) ∉ r.queue.requests.map Request.key) ∧
        ∀ i, i ∈ owed ↔
          (∃ (p : Fin 32) (e : CarrierEntry), s.carriers[p] = some e ∧ e.station = station.toNat ∧ e.slot = i) ∨
          ∃ e ∈ s.matcher.heard, e.station = station.toNat ∧ articleSlot s.running e.article = some i) ∧
      (restartByte.getLsbD 7 = false → r = base ∧ Refreshed s station.toNat base.carriers ∧
        ∀ i, i ∈ owed ↔ OwedByRefresh s station.toNat i) ∧
      (∀ l, SameButTallies (s.lane l) (r.lane l)) ∧ r.slots = s.slots ∧
      r = { s with
        lanes := r.lanes, matcher := r.matcher, carriers := base.carriers,
        queue := { s.queue with requests := r.queue.requests }, link := r.link }) ∧
    (∀ link, OwnDelivery s frame link → ∃ (r base : State) (owed : List Slot),
      exec (.presenceReception station restartByte health) s = .next (r.evaluateAll owed) ∧
      Refreshed s station.toNat base.carriers ∧
      base = { s with carriers := base.carriers, link := link } ∧
      r = (if restartByte.getLsbD 7 = true then stocks base else base) ∧
      ∀ i, i ∈ owed ↔ OwedByRefresh s station.toNat i)

/-! ## Stock view -/

/-- CARRIER_ENTRY_STALE and CARRIER_ENTRY_REMOVED of a station (section 5.3): its FRESH entries that have reached 35 s of age
turn STALE, or its entries that have reached 300 s leave, of either band (that a FRESH one of that age leaves too is the
model's choice, log 21); every slot concerned is evaluated, each once, and nothing else changes: an entry that a reception has
refreshed stays. -/
def Obligations.CarrierEntriesAge : Prop :=
  ∀ (s : State) (station : Nat),
    (∃ owed carriers, exec (.carrierEntryStale station) s =
        .next (State.evaluateAll { s with carriers := carriers } owed) ∧
      (∀ p : Fin 32, carriers[p] = match s.carriers[p] with
        | some e => if e.station = station ∧ e.band = .fresh ∧ 35000000 ≤ e.age then
            some { e with band := .stale } else some e
        | none => none) ∧
      ∀ i, i ∈ owed ↔ ∃ (p : Fin 32) (e : CarrierEntry),
        s.carriers[p] = some e ∧ e.station = station ∧ e.band = .fresh ∧ 35000000 ≤ e.age ∧ e.slot = i) ∧
    (∃ owed carriers, exec (.carrierEntryRemoved station) s =
        .next (State.evaluateAll { s with carriers := carriers } owed) ∧
      (∀ p : Fin 32, carriers[p] = match s.carriers[p] with
        | some e => if e.station = station ∧ 300000000 ≤ e.age then none else some e
        | none => none) ∧
      ∀ i, i ∈ owed ↔ ∃ (p : Fin 32) (e : CarrierEntry),
        s.carriers[p] = some e ∧ e.station = station ∧ 300000000 ≤ e.age ∧ e.slot = i)

/-- STOCK_RECEPTION (section 5.3). The node's own STOCK, and one of a sender outside 1 to 120, only refresh the sender's carrier
entries. From another station, after the refresh of the sender's entries, a frame about a carried
article sets the sender's entry for the article; or makes one in the lowest-numbered empty place; or takes the place of the
oldest STALE entry, the lowest-numbered among equals; or, in a table full of FRESH entries, is ignored. The slot of the
article is evaluated when the entry is new or changed, that of an entry replaced, and those of the sender's entries that were
STALE (section 5.4). The node's holding, the matcher and the counts stay. -/
def Obligations.StockReceptionPlacesEntry : Prop :=
  ∀ (s : State) (station : Byte) (article : Article) (holding : BitVec 16) (flags : Byte) (frame : Frame),
    frame = { station := station, payload := .stock article holding flags } →
    (∀ link, OwnDelivery s frame link →
      RefreshOnly s frame link (exec (.stockReception station article holding flags) s)) ∧
    (OutsideFrame s frame →
      RefreshOnly s frame (s.link.received frame) (exec (.stockReception station article holding flags) s)) ∧
    (PeerFrame s frame → CarriersSound s →
    ∃ (t : State) (owed : List Slot) (fresh : CarrierEntry → CarrierEntry),
      exec (.stockReception station article holding flags) s = .next (t.evaluateAll owed) ∧
      fresh = (fun e : CarrierEntry =>
        if e.station = station.toNat then { e with age := 0, band := Band.fresh } else e) ∧
      (articleSlot s.running article.toNat = none →
        (∀ q : Fin 32, t.carriers[q] = s.carriers[q].map fresh) ∧
        ∀ j, j ∈ owed ↔ OwedByRefresh s station.toNat j) ∧
      (∀ i entry, articleSlot s.running article.toNat = some i →
        entry = ({ station := station.toNat, slot := i, holding := holding.toNat, uncertain := flags.getLsbD 0,
                   age := 0, band := .fresh } : CarrierEntry) →
        (∀ (p : Fin 32) (e : CarrierEntry), s.carriers[p] = some e → e.station = station.toNat → e.slot = i →
          t.carriers[p] = some entry ∧ (∀ q : Fin 32, q ≠ p → t.carriers[q] = s.carriers[q].map fresh) ∧
          ∀ j, j ∈ owed ↔ OwedByRefresh s station.toNat j ∨
            j = i ∧ (e.holding ≠ holding.toNat ∨ e.uncertain ≠ flags.getLsbD 0)) ∧
        ((∀ (p : Fin 32) (e : CarrierEntry), s.carriers[p] = some e → ¬ (e.station = station.toNat ∧ e.slot = i)) →
          (∀ p : Fin 32, s.carriers[p] = none → (∀ q : Fin 32, q < p → s.carriers[q] ≠ none) →
            t.carriers[p] = some entry ∧ (∀ q : Fin 32, q ≠ p → t.carriers[q] = s.carriers[q].map fresh) ∧
            ∀ j, j ∈ owed ↔ OwedByRefresh s station.toNat j ∨ j = i) ∧
          ((∀ q : Fin 32, s.carriers[q] ≠ none) →
            (∀ (p : Fin 32) (e : CarrierEntry), s.carriers[p] = some e → e.band = .stale → e.station ≠ station.toNat →
              (∀ (q : Fin 32) (f : CarrierEntry), s.carriers[q] = some f → f.band = .stale →
                f.station ≠ station.toNat → f.age < e.age ∨ f.age = e.age ∧ p ≤ q) →
              t.carriers[p] = some entry ∧ (∀ q : Fin 32, q ≠ p → t.carriers[q] = s.carriers[q].map fresh) ∧
              ∀ j, j ∈ owed ↔ OwedByRefresh s station.toNat j ∨ j = i ∨ j = e.slot) ∧
            ((∀ (q : Fin 32) (f : CarrierEntry), s.carriers[q] = some f → f.station ≠ station.toNat →
                f.band = .fresh) →
              (∀ q : Fin 32, t.carriers[q] = s.carriers[q].map fresh) ∧
              ∀ j, j ∈ owed ↔ OwedByRefresh s station.toNat j)))) ∧
      t = { s with carriers := t.carriers, link := s.link.received frame })

/-- SHOCK_RECEPTION and NOTICE_RECEPTION from another station (sections 1.6, 2.4 and 8.2). A SHOCK of a configured neighbour
makes the mode FAST, stops the quiet timer and holds every enabled lane not in FAULT for 800 ms or for what remains of a
longer hold, and then the slots of the sender's entries that were STALE are evaluated; a SHOCK of any other station, of a number
outside 1 to 120 too, and every NOTICE only refresh the sender's carrier entries, with the evaluations that owes, and so do the
node's own SHOCK, as its own station is no neighbour, and its own NOTICE. -/
def Obligations.ShockAndNoticeReceptions : Prop :=
  ∀ (s : State) (station lane : Byte) (article : Article) (flags : Byte) (shock notice : Frame),
    shock = { station := station, payload := .shock } →
    notice = { station := station, payload := .notice lane article flags } →
    (PeerFrame s shock ∨ OutsideFrame s shock → station.toNat ∈ s.running.neighbours →
      ∃ (t : State) (owed : List Slot), exec (.shockReception station) s = .next (t.evaluateAll owed) ∧
        (∀ i, i ∈ owed ↔ OwedByRefresh s station.toNat i) ∧
        t.frontEnd.mode = .fast ∧ t.frontEnd.quietTimer = .stopped ∧ t.frontEnd.shockLatch = s.frontEnd.shockLatch ∧
        (∀ l, laneEnabled s.running l = true →
          (s.lane l).settler.state = some .moving ∨ (s.lane l).settler.state = some .settling ∨
            (s.lane l).settler.state = some .stable →
          (t.lane l).settler = { (s.lane l).settler with
            state := some .held, window := [], settleCounter := 0, motionRun := 0, holdTimer := .running 800000 }) ∧
        (∀ l, laneEnabled s.running l = true → (s.lane l).settler.state = some .held →
          (t.lane l).settler = { (s.lane l).settler with
            holdTimer := .running (max (s.lane l).settler.holdTimer.remaining 800000) }) ∧
        (∀ l, laneEnabled s.running l = false ∨ (s.lane l).settler.state = some .fault → t.lane l = s.lane l) ∧
        (∀ l, t.lane l = { s.lane l with settler := (t.lane l).settler }) ∧
        Refreshed s station.toNat t.carriers ∧
        t = { s with
          frontEnd := t.frontEnd, lanes := t.lanes, carriers := t.carriers, link := s.link.received shock }) ∧
    (∀ link, OwnDelivery s shock link → station.toNat ∉ s.running.neighbours →
      RefreshOnly s shock link (exec (.shockReception station) s)) ∧
    (∀ link, OwnDelivery s notice link →
      RefreshOnly s notice link (exec (.noticeReception station lane article flags) s)) ∧
    (PeerFrame s shock ∨ OutsideFrame s shock → station.toNat ∉ s.running.neighbours →
      RefreshOnly s shock (s.link.received shock) (exec (.shockReception station) s)) ∧
    (PeerFrame s notice ∨ OutsideFrame s notice →
      RefreshOnly s notice (s.link.received notice) (exec (.noticeReception station lane article flags) s))

/-! ## Alert unit -/

/-- One evaluation of an article slot (section 6.2). With C at RP + H or more the slot becomes NORMAL, its three timers
STOPPED, with an ALERT request when the last-sent status is RAISED or MUTED; that the end of a mute places it for RAISED too
is the model's reading (log 22); a NORMAL slot with C above RP stays as it is; otherwise the short side: MUTED and RAISED
stay, a NORMAL or DEFERRED slot is DEFERRED while deferral holds, RAISED with a request where the node leads, FOLLOWING where
it does not, and a FOLLOWING slot that leads is RAISED. No other slot changes, and of the lanes nothing but indicators. Before
the settling-in period has ended nothing changes. The slots that an event owes an evaluation are evaluated in slot order, each
once (section 5.4). -/
def Obligations.EvaluationFollowsTheTables : Prop :=
  ∀ (s : State) (i : Slot), AlertsTimed s →
    (s.settlingIn ≠ .ended → s.evaluate i = s) ∧
    (s.settlingIn = .ended → ∃ t u rp h c, t = s.evaluate i ∧ u = s.slot i ∧
      rp = (slotOf s.running i).reorderPoint ∧ h = (slotOf s.running i).hysteresis ∧
      c = u.holding + ((s.carrierEntries.filter fun e => decide (e.slot = i)).map CarrierEntry.holding).sum ∧
      (rp + h ≤ c →
        t.slot i = { u with
          alert := .normal, takeoverTimer := .stopped, repeatTimer := .stopped, muteTimer := .stopped } ∧
        (u.lastSent ≠ .none → t.queue = (s.place (.alert i)).queue) ∧ (u.lastSent = .none → t.queue = s.queue)) ∧
      (c < rp + h → u.alert = .normal → rp < c → t = s) ∧
      (c < rp + h → u.alert = .muted ∨ u.alert = .raised → t = s) ∧
      (c < rp + h → u.alert = .following → s.leads i = false → t = s) ∧
      (c < rp + h → u.alert = .following → s.leads i = true →
        t.slot i = { u with alert := .raised, takeoverTimer := .stopped, repeatTimer := .running 60000000 } ∧
        t.queue = (s.place (.alert i)).queue) ∧
      (c < rp + h → (u.alert = .normal ∧ c ≤ rp) ∨ u.alert = .deferred →
        (s.deferred i = true → t.slot i = { u with alert := .deferred } ∧ t.queue = s.queue) ∧
        (s.deferred i = false → s.leads i = true →
          t.slot i = { u with alert := .raised, repeatTimer := .running 60000000 } ∧
          t.queue = (s.place (.alert i)).queue) ∧
        (s.deferred i = false → s.leads i = false →
          t.slot i = { u with alert := .following, takeoverTimer := .running 150000000 } ∧ t.queue = s.queue)) ∧
      (∀ j, j ≠ i → t.slot j = s.slot j) ∧ (∀ l, SameButIndicator (s.lane l) (t.lane l)) ∧
      t = { s with slots := t.slots, lanes := t.lanes, queue := t.queue }) ∧
    ((s.slot i).lastSent ≠ .none → (s.endMute i).queue = (s.place (.alert i)).queue) ∧
    (∀ owed : List Slot, s.evaluateAll owed =
      (([0, 1, 2, 3, 4, 5, 6, 7] : List Slot).filter fun j => decide (j ∈ owed)).foldl State.evaluate s)

/-- The lead test (section 6.2) passes exactly when the slot is not uncertain and the node's key (holding, station) is lower
than that of every FRESH carrier entry of the slot that is not uncertain; in a sound table no two keys are equal. Deferral
holds exactly when the slot is not ready or one of the matcher's lists holds an entry of its article. -/
def Obligations.LeadTestComparesKeys : Prop :=
  ∀ (s : State) (i : Slot),
    (s.leads i = true ↔ (s.slot i).uncertain = false ∧
      ∀ (p : Fin 32) (e : CarrierEntry), s.carriers[p] = some e → e.slot = i → e.band = .fresh → e.uncertain = false →
        (s.slot i).holding < e.holding ∨ (s.slot i).holding = e.holding ∧ s.running.station < e.station) ∧
    (CarriersSound s → ∀ (p : Fin 32) (e : CarrierEntry), s.carriers[p] = some e →
      ((s.slot i).holding, s.running.station) ≠ (e.holding, e.station)) ∧
    (s.deferred i = true ↔ (s.slot i).ready = false ∨
      (∃ e ∈ s.matcher.pendingOut, e.article = (slotOf s.running i).article) ∨
      ∃ e ∈ s.matcher.heard, e.article = (slotOf s.running i).article)

/-- The expiries of the timers of slots, lanes and the PRESENCE schedule that have run out (sections 5.5, 5.6, 6.3, 6.5, 8.4):
settling-in becomes ENDED and every article slot is evaluated; refresh, repeat, notice and PRESENCE place their request, a
STOCK only for a ready slot, and start again at 120, 60, 60 and 10 s; takeover makes the slot RAISED with a request whatever
its key; the end of a mute makes it NORMAL, with a request when the last-sent status is RAISED or MUTED (section 6.2; the
model's reading, log 22), and evaluates it. A timer that has not run out, as one that another event has started again, does
not expire. -/
def Obligations.SlotAndLaneTimersExpire : Prop :=
  ∀ (s : State) (i : Slot) (l : Lane),
    (s.settlingIn ≠ .running 0 → exec .settlingInExpiry s = .next s) ∧
    (s.settlingIn = .running 0 → exec .settlingInExpiry s =
      .next (State.evaluateAll { s with settlingIn := .ended } (articleSlots s.running))) ∧
    ((s.slot i).refreshTimer ≠ .running 0 → exec (.refreshTimerExpiry i) s = .next s) ∧
    ((s.slot i).refreshTimer = .running 0 → ∃ t, exec (.refreshTimerExpiry i) s = .next t ∧
      t.slot i = { s.slot i with refreshTimer := .running 120000000 } ∧
      t = { s with
        slots := s.slots.set i.val (t.slot i) i.isLt
        queue := if (s.slot i).ready = true then (s.place (.stock i)).queue else s.queue }) ∧
    ((s.slot i).repeatTimer ≠ .running 0 → exec (.repeatTimerExpiry i) s = .next s) ∧
    ((s.slot i).repeatTimer = .running 0 → ∃ t, exec (.repeatTimerExpiry i) s = .next t ∧
      t.slot i = { s.slot i with repeatTimer := .running 60000000 } ∧
      t = { s with
        slots := s.slots.set i.val (t.slot i) i.isLt, queue := (s.place (.alert i)).queue }) ∧
    ((s.slot i).takeoverTimer ≠ .running 0 → exec (.takeoverTimerExpiry i) s = .next s) ∧
    ((s.slot i).takeoverTimer = .running 0 → ∃ t, exec (.takeoverTimerExpiry i) s = .next t ∧
      t.slot i = { s.slot i with
        alert := .raised, takeoverTimer := .stopped, repeatTimer := .running 60000000 } ∧
      (∀ m, SameButIndicator (s.lane m) (t.lane m)) ∧
      t = { s with
        slots := s.slots.set i.val (t.slot i) i.isLt, queue := (s.place (.alert i)).queue
        lanes := t.lanes }) ∧
    ((s.slot i).muteTimer ≠ .running 0 → exec (.muteTimerExpiry i) s = .next s) ∧
    ((s.slot i).muteTimer = .running 0 → ∃ t : State, exec (.muteTimerExpiry i) s = .next (t.evaluate i) ∧
      t.slot i = { s.slot i with
        alert := .normal, takeoverTimer := .stopped, repeatTimer := .stopped, muteTimer := .stopped } ∧
      (∀ m, SameButIndicator (s.lane m) (t.lane m)) ∧
      t = { s with
        slots := s.slots.set i.val (t.slot i) i.isLt
        queue := if (s.slot i).lastSent = .none then s.queue else (s.place (.alert i)).queue
        lanes := t.lanes }) ∧
    ((s.lane l).notice.timer ≠ .running 0 → exec (.noticeTimerExpiry l) s = .next s) ∧
    ((s.lane l).notice.timer = .running 0 → ∃ t, exec (.noticeTimerExpiry l) s = .next t ∧
      t.lane l = { s.lane l with notice := { (s.lane l).notice with timer := .running 60000000 } } ∧
      t = { s with
        lanes := s.lanes.set l.idx.val (t.lane l) l.idx.isLt, queue := (s.place (.notice l)).queue }) ∧
    (s.queue.presenceTimer ≠ .running 0 → exec .presenceTimerExpiry s = .next s) ∧
    (s.queue.presenceTimer = .running 0 → exec .presenceTimerExpiry s = .next { s with
      queue := { (s.place .presence).queue with presenceTimer := .running 10000000 } })

/-- ALERT_RECEPTION (section 6.3). The node's own frame, one of a sender outside 1 to 120, of no known status or of an article
not carried is not applied and only refreshes the sender's carrier entries. From another station about a carried article: a
RAISED frame makes a RAISED slot yield to a lower key, leaves it on a higher one, restarts a FOLLOWING slot's takeover timer and
does nothing else; then the slots of the sender's entries that were STALE are evaluated. A CLEARED or MUTED frame has the slot
evaluated, once, with those of the sender's entries that were STALE, and restarts the takeover timer of a slot that is then
FOLLOWING, once settling-in has ended. The sender's carrier entries are refreshed in all (section 5.3), before the rest. -/
def Obligations.AlertReceptionYieldsAndFollows : Prop :=
  ∀ (s : State) (station : Byte) (article : Article) (status : Byte) (combined holding reorder : BitVec 16) (frame : Frame),
    frame = { station := station, payload := .alert article status combined holding reorder } →
    (∀ link, OwnDelivery s frame link → RefreshOnly s frame link
      (exec (.alertReception station article status combined holding reorder) s)) ∧
    (OutsideFrame s frame ∨ PeerFrame s frame ∧
        (articleSlot s.running article.toNat = none ∨ status ≠ 1 ∧ status ≠ 2 ∧ status ≠ 3) →
      RefreshOnly s frame (s.link.received frame)
        (exec (.alertReception station article status combined holding reorder) s)) ∧
    ∀ i : Slot, PeerFrame s frame → articleSlot s.running article.toNat = some i →
    ∃ base : State, Refreshed s station.toNat base.carriers ∧
      base = { s with carriers := base.carriers, link := s.link.received frame } ∧
      (status = 1 → ∃ (r : State) (owed : List Slot),
        exec (.alertReception station article status combined holding reorder) s = .next (r.evaluateAll owed) ∧
        (∀ j, j ∈ owed ↔ OwedByRefresh s station.toNat j) ∧
        ((s.slot i).alert = .raised →
          (holding.toNat < (s.slot i).holding ∨
              holding.toNat = (s.slot i).holding ∧ station.toNat < s.running.station →
            r.slot i = { s.slot i with
              alert := .following, repeatTimer := .stopped, takeoverTimer := .running 150000000, lastSent := .none }) ∧
          (¬ (holding.toNat < (s.slot i).holding ∨
              holding.toNat = (s.slot i).holding ∧ station.toNat < s.running.station) → r = base)) ∧
        ((s.slot i).alert = .following →
          r.slot i = { s.slot i with takeoverTimer := .running 150000000 }) ∧
        ((s.slot i).alert = .normal ∨ (s.slot i).alert = .deferred ∨ (s.slot i).alert = .muted → r = base) ∧
        (∀ j, j ≠ i → r.slot j = s.slot j) ∧ (∀ l, SameButIndicator (s.lane l) (r.lane l)) ∧
        r = { base with slots := r.slots, lanes := r.lanes }) ∧
      (status = 2 ∨ status = 3 → ∃ (r t : State) (owed : List Slot),
        exec (.alertReception station article status combined holding reorder) s = .next t ∧
        r = base.evaluateAll owed ∧ (∀ j, j ∈ owed ↔ OwedByRefresh s station.toNat j ∨ j = i) ∧
        t.slot i = (if s.settlingIn = .ended ∧ (r.slot i).alert = .following then
            { r.slot i with takeoverTimer := .running 150000000 } else r.slot i) ∧
        (∀ j, j ≠ i → t.slot j = r.slot j) ∧ t = { r with slots := t.slots })

/-- HUSH_RECEPTION (section 6.3) from a sender of any number but this node's own: the sender's carrier entries are refreshed
(section 5.3), and with minutes from 1, above 240 as 240, a RAISED, FOLLOWING or DEFERRED slot is MUTED for them, with an ALERT
request when RAISED was last sent, and a MUTED one is muted anew; with 0 minutes a mute ends at once; a NORMAL slot, a hush of 0
minutes in the short states, and a hush of an article not carried change nothing more. Then the slot whose mute has ended and
those of the sender's entries that were STALE are evaluated, each once. The end of a mute places its ALERT request when RAISED
or MUTED was last sent, as section 6.2 has it for every rule that makes a slot NORMAL: the model's reading (log 22). -/
def Obligations.HushMutesShortSlots : Prop :=
  ∀ (s : State) (station : Byte) (article : Article) (minutes : Byte),
    Assembles s (frameChars { station := station, payload := .hush article minutes }) → station ≠ s.ownStation →
    ∃ (r : State) (owed : List Slot), exec (.hushReception station article minutes) s = .next (r.evaluateAll owed) ∧
      Refreshed s station.toNat r.carriers ∧
      (∀ i, i ∈ owed ↔ OwedByRefresh s station.toNat i ∨
        articleSlot s.running article.toNat = some i ∧ (s.slot i).alert = .muted ∧ minutes = 0) ∧
      (articleSlot s.running article.toNat = none → r.slots = s.slots ∧ r.queue = s.queue) ∧
      (∀ i, articleSlot s.running article.toNat = some i →
        ((s.slot i).alert = .normal → r.slots = s.slots ∧ r.queue = s.queue) ∧
        ((s.slot i).alert = .raised ∨ (s.slot i).alert = .following ∨ (s.slot i).alert = .deferred →
          (minutes = 0 → r.slots = s.slots ∧ r.queue = s.queue) ∧
          (minutes ≠ 0 →
            r.slot i = { s.slot i with
              alert := .muted, muteTimer := .running (min 240 minutes.toNat * 60000000), takeoverTimer := .stopped,
              repeatTimer := .stopped } ∧
            r.queue = if (s.slot i).lastSent = .raised then (s.place (.alert i)).queue else s.queue)) ∧
        ((s.slot i).alert = .muted →
          (minutes ≠ 0 →
            r.slot i = { s.slot i with muteTimer := .running (min 240 minutes.toNat * 60000000) } ∧
            r.queue = s.queue) ∧
          (minutes = 0 →
            r.slot i = { s.slot i with
              alert := .normal, takeoverTimer := .stopped, repeatTimer := .stopped, muteTimer := .stopped } ∧
            r.queue = if (s.slot i).lastSent = .none then s.queue else (s.place (.alert i)).queue)) ∧
        (∀ j, j ≠ i → r.slot j = s.slot j)) ∧
      (∀ l, SameButIndicator (s.lane l) (r.lane l)) ∧
      r = { s with
        slots := r.slots, lanes := r.lanes, queue := r.queue, carriers := r.carriers
        link := s.link.received { station := station, payload := .hush article minutes } }

/-- An ALERT request at its transmission start (R108): RAISED from a RAISED slot, CLEARED from a NORMAL one last sent RAISED
or MUTED, MUTED from a MUTED one last sent RAISED, with the article, C at most 65,535, the holding and RP; in any other case
it is discarded unsent, leaves the queue, and the next request is taken. -/
def Obligations.AlertRequestsResolve : Prop :=
  ∀ (s : State) (i : Slot) (r : Request), r.key = .alert i →
    (∀ a, a = (slotOf s.running i).article → ∀ c, c = min 65535 (s.combined i) →
      ((s.slot i).alert = .raised → s.build r = some (.alert (BitVec.ofNat 24 a) 1 (BitVec.ofNat 16 c)
        (BitVec.ofNat 16 (s.slot i).holding) (BitVec.ofNat 16 (slotOf s.running i).reorderPoint))) ∧
      ((s.slot i).alert = .normal → (s.slot i).lastSent = .raised ∨ (s.slot i).lastSent = .muted →
        s.build r = some (.alert (BitVec.ofNat 24 a) 2 (BitVec.ofNat 16 c)
          (BitVec.ofNat 16 (s.slot i).holding) (BitVec.ofNat 16 (slotOf s.running i).reorderPoint))) ∧
      ((s.slot i).alert = .muted → (s.slot i).lastSent = .raised →
        s.build r = some (.alert (BitVec.ofNat 24 a) 3 (BitVec.ofNat 16 c)
          (BitVec.ofNat 16 (s.slot i).holding) (BitVec.ofNat 16 (slotOf s.running i).reorderPoint)))) ∧
    (s.build r = none ↔
      ¬ ((s.slot i).alert = .raised ∨
        (s.slot i).alert = .normal ∧ ((s.slot i).lastSent = .raised ∨ (s.slot i).lastSent = .muted) ∨
        (s.slot i).alert = .muted ∧ (s.slot i).lastSent = .raised)) ∧
    (s.build r = none → firstWaiting s.queue.requests = some r → ∀ n, ∃ t, t = s.startNext (n + 1) ∧
      t = State.startNext n { s with
        queue := { s.queue with requests := s.queue.requests.filter fun q => decide (q.key ≠ .alert i) } })

/-! ## Transmit queue and link controller -/

/-- Placement and withdrawal (sections 8.3): a request of a new key is added WAITING with the instant as its age; a WAITING
one of the key stands; one IN FLIGHT takes a renewal mark unless it has one; requests of other keys stand. A withdrawn
request leaves at once, and its frame in flight goes on as a detached frame. -/
def Obligations.PlacementCoalescesAndWithdrawalDetaches : Prop :=
  ∀ (s : State) (k : RequestKey), (s.queue.requests.map Request.key).Nodup →
    (k ∉ s.queue.requests.map Request.key →
      (s.place k).queue.requests =
        s.queue.requests ++ [{ key := k, age := s.now, inFlight := false, renewal := none, claimType := none }]) ∧
    (k ∈ s.queue.requests.map Request.key →
      (s.place k).queue.requests.map Request.key = s.queue.requests.map Request.key) ∧
    (∀ r ∈ s.queue.requests, r.key ≠ k ∨ r.inFlight = false ∨ r.renewal.isSome = true →
      r ∈ (s.place k).queue.requests) ∧
    (∀ r ∈ s.queue.requests, r.key = k → r.inFlight = true → r.renewal = none →
      { r with renewal := some s.now } ∈ (s.place k).queue.requests) ∧
    s.place k = { s with queue := { s.queue with requests := (s.place k).queue.requests } } ∧
    (∀ (station : Nat) (tag : Byte) (type : ClaimType), k = .claim station tag → k ∉ s.queue.requests.map Request.key →
      (s.placeClaim station tag type).queue.requests =
        s.queue.requests ++
          [{ key := k, age := s.now, inFlight := false, renewal := none, claimType := some type }]) ∧
    (s.withdraw k).queue.requests = s.queue.requests.filter (fun r => decide (r.key ≠ k)) ∧
    (∀ f r, s.link.flight = some f → r ∈ s.queue.requests → r.key = k → f.key = k → r.inFlight = true →
      (s.withdraw k).link.flight = some { f with detached := true }) ∧
    (∀ f, s.link.flight = some f → f.key ≠ k → (s.withdraw k).link.flight = some f) ∧
    s.withdraw k = { s with
      queue := { s.queue with requests := (s.withdraw k).queue.requests }
      link := { s.link with flight := (s.withdraw k).link.flight } }

/-- TRANSMISSION_START (sections 7.4 and 8.3): with the link ACTIVE, no supply hold, no frame in flight, the receiver
SEARCHING and a recessive count of 11, or of 15 with the spacing flag set, the WAITING request that is first by kind code,
then age, then key is built from its owner's state, becomes IN FLIGHT and starts driving, and an OFFER's entry becomes
SENDING; an ALERT that resolves to nothing is discarded, and the start goes on with the rest of the queue; without these
conditions nothing starts. What is built: an OFFER from its entry, its remaining window in whole seconds rounded up, 1 at the
least (section 4.2); a CLAIM from what was placed; a NOTICE from the lane's flags (section 6.5); a STOCK from the slot's holding
and uncertain flag (section 5.6); a PRESENCE from restart flag, restart cause and health counter (section 8.4). An OFFER whose
window has run out with the expiry still to come (log 2) carries 1 s. -/
def Obligations.TransmissionStartTakesFirstRequest : Prop :=
  ∀ s : State,
    (s.link.state ≠ .active ∨ s.frontEnd.supplyHold = true ∨ s.link.flight.isSome = true ∨ s.queue.requests = [] ∨
        s.link.receiver ≠ .searching ∨ s.link.recessiveCount < 11 ∨
        s.link.spacing = true ∧ s.link.recessiveCount < 15 →
      exec .transmissionStart s = .next s) ∧
    (∀ r : Request,
      (r.key = .shock → s.build r = some .shock) ∧
      (∀ station tag type, r.key = .claim station tag → r.claimType = some type →
        s.build r = some (.claim (BitVec.ofNat 8 station) tag (if type = .relocation then 1 else 2))) ∧
      (∀ tag e, r.key = .offer tag → s.matcher.pendingOut.find? (fun e => decide (e.tag = tag)) = some e →
        ∃ window : Nat, s.build r = some (.offer tag (BitVec.ofNat 24 e.article) (BitVec.ofNat 16 e.count)
            (BitVec.ofNat 24 e.grams) (BitVec.ofNat 16 e.tol) (BitVec.ofNat 8 window)) ∧
          1 ≤ window ∧ e.remaining ≤ window * 1000000 ∧ (1 < window → (window - 1) * 1000000 < e.remaining) ∧
          (e.remaining ≤ 120000000 → window ≤ 120)) ∧
      (∀ l, r.key = .notice l →
        s.build r = some (.notice (BitVec.ofNat 8 l.number) (BitVec.ofNat 24 (articleOfLane s.running l))
          (BitVec.ofNat 8 ((if (s.lane l).notice.audit = true then 1 else 0) +
            (if (s.lane l).notice.foreign = true then 2 else 0) + if (s.lane l).notice.fault = true then 4 else 0)))) ∧
      (∀ i, r.key = .stock i →
        s.build r = some (.stock (BitVec.ofNat 24 (slotOf s.running i).article) (BitVec.ofNat 16 (s.slot i).holding)
          (if (s.slot i).uncertain = true then 1 else 0))) ∧
      (r.key = .presence →
        s.build r = some (.presence (BitVec.ofNat 8 ((if s.queue.restartFlag = true then 128 else 0) +
          match s.startUp.cause with
          | .powerOn => 1
          | .supplyDip => 2
          | .pin => 3
          | .command => 4)) (BitVec.ofNat 8 s.link.health)))) ∧
    ∀ r : Request, s.link.state = .active → s.frontEnd.supplyHold = false → s.link.flight = none →
      s.link.receiver = .searching → 11 ≤ s.link.recessiveCount →
      (s.link.spacing = true → 15 ≤ s.link.recessiveCount) → r ∈ s.queue.requests → r.inFlight = false →
      (∀ q ∈ s.queue.requests, q.inFlight = false → q ≠ r →
        keyKind r.key < keyKind q.key ∨ keyKind r.key = keyKind q.key ∧
          (r.age < q.age ∨ r.age = q.age ∧ keyOrder r.key < keyOrder q.key)) →
      (s.build r = none → exec .transmissionStart s = exec .transmissionStart { s with
        queue := { s.queue with requests := s.queue.requests.filter fun q => decide (q.key ≠ r.key) } }) ∧
      ∀ p : Payload, s.build r = some p → ∃ t, exec .transmissionStart s = .next t ∧
        t.link.flight = some
          { frame := { station := BitVec.ofNat 8 s.running.station, payload := p }, key := r.key, position := 0,
            detached := false, delivered := false } ∧
        (s.link.driverInhibited = false →
          t.link.driver = .driving ∧ t.link.recessiveCount = 0 ∧ t.link.spacing = false ∧
          t.link.receiver = .inCharacter ∧ t.link.buffer = [] ∧ t.link.bits = []) ∧
        (s.link.driverInhibited = true → t.link.driver = .released) ∧ t.link.dominantTimer = 0 ∧
        t.link.health = s.link.health ∧ t.link.state = .active ∧
        t.queue.requests = s.queue.requests.map (fun q => if q.key = r.key then { q with inFlight := true } else q) ∧
        ((∀ tag, r.key ≠ .offer tag) → t.matcher = s.matcher) ∧
        (∀ tag, r.key = .offer tag → t.matcher = { s.matcher with
          pendingOut := s.matcher.pendingOut.map (fun e =>
            if e.tag = tag ∧ e.status = .queued then { e with status := .sending } else e) }) ∧
        t = { s with
          link := t.link, matcher := t.matcher, queue := { s.queue with requests := t.queue.requests } }

/-- LOST_ARBITRATION, READBACK_FAILURE and DOMINANT_TIMEOUT of a frame in flight (sections 7.4, 7.5, 8.3): the driver is
released and the frame ends; its request, unless it was withdrawn, is WAITING again with its age and without a renewal mark,
an OFFER's entry QUEUED. A lost arbitration, at a recessive data bit of the first two characters, leaves the health counter,
and the receiver goes on in the character with the dominant bit; so it does after a readback failure at a data bit of a frame
that the driver gave, while one at a start or stop bit leaves it waiting for idle (log 15). The others add 4 to it and at 32
or more lead to QUARANTINE for 30 s. No owner is told. The first two fall at a bit that the frame is sending: in the 20 µs
that its progress stands at (log 2). A dominant timeout is of a driver that is driving: with the driver released, or the frame
sent whole, there is none. -/
def Obligations.FailedTransmissionsKeepTheRequest : Prop :=
  ∀ (s : State) (f : Flight) (char bit : Nat), s.link.flight = some f → s.link.state = .active →
    ∀ back : State → Prop,
      back = (fun t =>
        t.link.driver = .released ∧ t.link.flight = none ∧ t.link.dominantTimer = 0 ∧
        t.link.spacing = s.link.spacing ∧
        t.queue.requests = (if f.detached = true then s.queue.requests else s.queue.requests.map (fun q =>
          if q.key = f.key then { q with inFlight := false, renewal := none } else q)) ∧
        (f.detached = true ∨ (∀ tag, f.key ≠ .offer tag) → t.matcher = s.matcher) ∧
        (∀ tag, f.detached = false → f.key = .offer tag → t.matcher = { s.matcher with
          pendingOut := s.matcher.pendingOut.map (fun e =>
            if e.tag = tag ∧ e.status = .sending then { e with status := .queued } else e) }) ∧
        t = { s with
          link := t.link, matcher := t.matcher, queue := { s.queue with requests := t.queue.requests } }) →
    (10 * char + bit < f.position ∨
        f.position + (if s.running.bitRate = .k50 then 1 else 2) ≤ 10 * char + bit →
      exec (.lostArbitration char bit) s = .next s ∧
        exec (.readbackFailure char bit) s = .next s) ∧
    (f.position ≤ 10 * char + bit → 10 * char + bit < f.position + (if s.running.bitRate = .k50 then 1 else 2) →
      char < 2 → 1 ≤ bit → bit ≤ 8 → bitAt (frameChars f.frame) (10 * char + bit) = true →
      ∃ t, exec (.lostArbitration char bit) s = .next t ∧ back t ∧ t.link.state = .active ∧
        t.link.health = s.link.health ∧ ReadsOn t.link (frameChars f.frame) char bit false ∧ t.link.recessiveCount = 0) ∧
    (f.position ≤ 10 * char + bit → 10 * char + bit < f.position + (if s.running.bitRate = .k50 then 1 else 2) →
      char < (frameChars f.frame).length → bit < 10 →
      ¬ (char < 2 ∧ 1 ≤ bit ∧ bit ≤ 8 ∧ bitAt (frameChars f.frame) (10 * char + bit) = true) →
      ∃ t, exec (.readbackFailure char bit) s = .next t ∧ back t ∧ t.link.health = s.link.health + 4 ∧
        (s.link.driverInhibited = false →
          (bit = 0 ∨ bit = 9 → t.link.receiver = .waitingForIdle ∧ t.link.buffer = [] ∧ t.link.bits = []) ∧
          (bit ≠ 0 → bit ≠ 9 → ReadsOn t.link (frameChars f.frame) char bit
            (!bitAt (frameChars f.frame) (10 * char + bit)))) ∧
        (s.link.health + 4 < 32 → t.link.state = .active ∧ t.link.quarantineTimer = s.link.quarantineTimer) ∧
        (32 ≤ s.link.health + 4 → t.link.state = .quarantine ∧ t.link.quarantineTimer = .running 30000000)) ∧
    (s.link.driver = .released ∨ f.position = 10 * (frameChars f.frame).length →
      exec .dominantTimeout s = .next s) ∧
    (s.link.driver = .driving → f.position ≠ 10 * (frameChars f.frame).length →
      ∃ t, exec .dominantTimeout s = .next t ∧ back t ∧ t.link.health = s.link.health + 4 ∧
      t.link.driverInhibited = true ∧
      (s.link.health + 4 < 32 → t.link.state = .active ∧ t.link.quarantineTimer = s.link.quarantineTimer) ∧
      (32 ≤ s.link.health + 4 → t.link.state = .quarantine ∧ t.link.quarantineTimer = .running 30000000))

/-- TRANSMISSION_END of a frame sent to its last bit (sections 7.4 and 8.3): the driver is released, the health counter goes
down by 1, the spacing flag is set; the request leaves, or with a renewal mark is WAITING with that instant as its age, and
its owner takes the end: spacing timer, SENT statuses, last-sent status with the repeat timer and an ALERT request of a slot
that is NORMAL, notice timer, refresh timer, restart flag. A detached frame leaves the requests as they are, and the matcher,
whatever entries it then holds (log 10). A frame still being sent does not end. -/
def Obligations.TransmissionEndCompletesTheRequest : Prop :=
  ∀ (s : State) (f : Flight), s.link.flight = some f →
    (f.position ≠ 10 * (frameChars f.frame).length → exec .transmissionEnd s = .next s) ∧
    (f.position = 10 * (frameChars f.frame).length → ∃ t left, exec .transmissionEnd s = .next t ∧
      left = (if f.detached = true then s.queue.requests else s.queue.requests.filterMap (fun r =>
        if r.key = f.key then
          match r.renewal with
          | some at_ => some { r with age := at_, inFlight := false, renewal := none }
          | none => none
        else some r)) ∧
      t.link.driver = .released ∧ t.link.flight = none ∧ t.link.health = s.link.health - 1 ∧
      t.link.spacing = true ∧ t.link.state = s.link.state ∧
      t.link.ownDelivery = (if f.delivered = true then none else some f.frame) ∧
      (f.detached = true → t.matcher = s.matcher) ∧
      ((∀ i, f.key ≠ .alert i) → t.queue.requests = left) ∧
      (f.key = .shock → t.frontEnd = { s.frontEnd with spacingTimer := .running 1000000 }) ∧
      (f.key ≠ .shock → t.frontEnd = s.frontEnd) ∧
      (∀ tag, f.key = .offer tag → f.detached = false → t.matcher = { s.matcher with
        pendingOut := s.matcher.pendingOut.map (fun e =>
          if e.tag = tag ∧ e.status = .sending then { e with status := .sent } else e) }) ∧
      (∀ station tag, f.key = .claim station tag → f.detached = false → t.matcher = { s.matcher with
        heard := s.matcher.heard.map (fun e =>
          if e.station = station ∧ e.tag = tag ∧ e.claimStatus = .queued then { e with claimStatus := .sent }
          else e) }) ∧
      (∀ i a st c h rp, f.key = .alert i → f.frame.payload = .alert a st c h rp → st = 1 ∨ st = 2 ∨ st = 3 →
        t.slot i = { s.slot i with
          lastSent := if st = 1 then .raised else if st = 2 then .none else .muted
          repeatTimer := if st = 1 ∧ (s.slot i).alert = .raised then .running 60000000
            else (s.slot i).repeatTimer } ∧
        t.queue.requests = (if (s.slot i).alert = .normal ∧ st ≠ 2 then placeIn s.now (.alert i) none left
          else left)) ∧
      (∀ l, f.key = .notice l → t.lane l = { s.lane l with
        notice := { (s.lane l).notice with
          timer := if ((s.lane l).notice.audit || (s.lane l).notice.foreign || (s.lane l).notice.fault) = true then
            .running 60000000 else (s.lane l).notice.timer } }) ∧
      (∀ l, f.key ≠ .notice l → t.lane l = s.lane l) ∧
      (∀ i, f.key = .stock i → t.slot i = { s.slot i with refreshTimer := .running 120000000 }) ∧
      (∀ i, f.key ≠ .stock i → f.key ≠ .alert i → t.slot i = s.slot i) ∧
      (∀ i, f.key = .stock i ∨ f.key = .alert i → ∀ j, j ≠ i → t.slot j = s.slot j) ∧
      ((∀ tag, f.key ≠ .offer tag) → (∀ station tag, f.key ≠ .claim station tag) → t.matcher = s.matcher) ∧
      (f.key ≠ .presence → t.queue.restartFlag = s.queue.restartFlag) ∧
      (∀ b h, f.key = .presence → f.frame.payload = .presence b h →
        t.queue.restartFlag = (s.queue.restartFlag && !b.getLsbD 7)) ∧
      t.queue.presenceTimer = s.queue.presenceTimer ∧
      t = { s with
        link := t.link, queue := t.queue, frontEnd := t.frontEnd, lanes := t.lanes, slots := t.slots,
        matcher := t.matcher })

/-- The link's own events (sections 7.2, 7.3, 7.5, 7.6 and 5.5): QUARANTINE ends in JOINING with the health counter and the
recessive count 0; JOINING ends in ACTIVE at a recessive count of 11, which starts a settling-in timer that has not been
started at 35 s; an idle line makes the receiver SEARCHING with an empty buffer, and so does the entry into ACTIVE, also from
within a character, which is the model's reading (log 15); a framing error that the receiver can meet, with the bits it has
sampled, discards the buffer and waits for idle; an invalid frame whose beginning it has sampled is dropped and it is
SEARCHING; the recessive count stands as the ticks have counted it where they have passed the event's last bit. A receiver
that waits for idle meets neither. No other block is told of a discarded frame. That the buffer
is emptied at a frame's completion is the model's choice (log 32). -/
def Obligations.LinkStatesAndLineEvents : Prop :=
  ∀ s : State,
    (s.link.state = .quarantine → s.link.quarantineTimer = .running 0 →
      exec .quarantineExpiry s = .next { s with
        link := { s.link with
          state := .joining, health := 0, quarantineTimer := .stopped, recessiveCount := 0 } }) ∧
    (s.link.state ≠ .quarantine ∨ s.link.quarantineTimer ≠ .running 0 →
      exec .quarantineExpiry s = .next s) ∧
    (s.link.state = .joining → s.link.flight = none → 11 ≤ s.link.recessiveCount →
      exec .linkBecomesActive s = .next { s with
        link := { s.link with state := .active, receiver := .searching, buffer := [], bits := [] }
        settlingIn := if s.settlingIn = .notStarted then .running 35000000 else s.settlingIn }) ∧
    (s.link.state ≠ .joining ∨ s.link.flight ≠ none ∨ s.link.recessiveCount < 11 →
      exec .linkBecomesActive s = .next s) ∧
    (s.link.state ≠ .off → s.link.flight = none → 11 ≤ s.link.recessiveCount →
      exec .lineIdle s = .next { s with link := { s.link with receiver := .searching, buffer := [], bits := [] } }) ∧
    (s.link.state = .off ∨ s.link.flight ≠ none ∨ s.link.recessiveCount < 11 →
      exec .lineIdle s = .next s) ∧
    (s.link.state ≠ .off → s.link.flight = none → s.link.receiver ≠ .stopped → s.link.receiver ≠ .waitingForIdle →
      ∀ cause,
        (cause = .stopBitDominant → s.link.bits.length < 10 ∨ s.link.bits.getLast? = some false) →
        (cause = .startBitRecessive → s.link.bits.length < 10) →
        (∀ n, cause = .lengthAbove12 n → s.link.receiver = .searching ∨ s.link.buffer.length < 2 ∧ s.link.bits.length < 10 ∨
          s.link.buffer.length = 2 ∧ s.link.bits <+: charBits n) →
      ∃ t, exec (.framingError cause) s = .next t ∧ t = { s with link := { s.link with
        receiver := .waitingForIdle, buffer := [], bits := [], recessiveCount := t.link.recessiveCount, spacing := false } } ∧
        ((∀ n, cause ≠ .lengthAbove12 n) → s.link.bits.length < 10 → t.link.recessiveCount = 0) ∧
        (10 ≤ s.link.bits.length → t.link.recessiveCount = s.link.recessiveCount)) ∧
    (∀ frame, Assembles s frame → ∃ t, exec (.invalidFrameDropped frame) s = .next t ∧ t = { s with link := { s.link with
      receiver := .searching, buffer := [], bits := [], recessiveCount := t.link.recessiveCount, spacing := false } } ∧
      (10 ≤ s.link.bits.length → t.link.recessiveCount = s.link.recessiveCount)) ∧
    (∀ frame, s.link.receiver ≠ .searching → ¬ s.link.buffer.flatMap charBits ++ s.link.bits <+: frame.flatMap charBits →
      exec (.invalidFrameDropped frame) s = .next s) ∧
    (s.link.receiver = .waitingForIdle ∨ s.link.receiver = .stopped ∨ s.link.flight ≠ none →
      (∀ cause, exec (.framingError cause) s = .next s) ∧
      ∀ frame, exec (.invalidFrameDropped frame) s = .next s)

/-- ADDRESS_CONFLICT (section 7.7): a valid peer frame with this node's number that the receiver has assembled in JOINING,
ACTIVE or QUARANTINE makes the link SILENCED with the conflict flag set and the quarantine timer STOPPED, the health counter
kept; the frame is not delivered and refreshes nothing. In SILENCED a further one changes nothing but the receiver. A frame that
the receiver has not assembled is no conflict. The reception command of every frame with the node's own number that is not its
own frame, sent whole, has this effect, whatever the kind. A SILENCED link stays SILENCED, with the flag, and starts no frame,
under every command but a restart and through every tick: what sets a SILENCED node apart is that it is in RUN (invariant
RestsOutsideRun), so START and the start decision do not touch it. That the buffer is emptied at a frame's completion is the
model's choice (log 32). -/
def Obligations.AddressConflictSilences : Prop :=
  (∀ (s : State) (p : Payload) (frame : Frame), frame = { station := s.ownStation, payload := p } →
    (Assembles s (frameChars frame) →
      (s.link.state = .joining ∨ s.link.state = .active ∨ s.link.state = .quarantine →
        ∃ t, exec (.addressConflict p) s = .next t ∧ t.link = { s.link with
          state := .silenced, addressConflict := true, quarantineTimer := .stopped, driver := .released
          dominantTimer := 0, receiver := .searching, buffer := [], bits := [], recessiveCount := t.link.recessiveCount
          spacing := false } ∧
        t = { s with link := t.link } ∧ exec .transmissionStart t = .next t) ∧
      (s.link.state = .silenced → ∃ t, exec (.addressConflict p) s = .next t ∧
        t.link = { s.link with
          receiver := .searching, buffer := [], bits := [], recessiveCount := t.link.recessiveCount
          spacing := false } ∧
        t = { s with link := t.link } ∧ exec .transmissionStart t = .next t)) ∧
    (¬ Assembles s (frameChars frame) → exec (.addressConflict p) s = .next s) ∧
    ((∀ g, s.link.flight = some g → g.frame = frame → g.position = 10 * (frameChars frame).length →
        g.delivered = true) →
      s.link.ownDelivery ≠ some frame → exec frame.reception s = exec (.addressConflict p) s)) ∧
  (∀ (c : Instr) (s t : State), s.link.state = .silenced → s.link.flight = none → RestsOutsideRun s →
    c ≠ .restart → (∀ high, c ≠ .powerOn high) → c ≠ .supplyDip → c ≠ .pin → exec c s = .next t →
    t.link.state = .silenced ∧ t.link.addressConflict = s.link.addressConflict ∧ t.link.flight = none ∧
      t.link.driver = s.link.driver ∧ t.link.quarantineTimer = s.link.quarantineTimer) ∧
  ∀ s t : State, s.link.state = .silenced → s.link.flight = none → s.pending = [] → step s = .next t →
    t.link.state = .silenced ∧ t.link.addressConflict = s.link.addressConflict ∧ t.link.flight = none ∧
      t.link.driver = s.link.driver

/-- Every frame built from a payload is a valid frame: kind, station and length characters, the payload of its kind's length,
and the check that the receiver computes, no more than 17 characters in all (sections 7.3 and 12.1). -/
def Obligations.BuiltFramesAreValid : Prop :=
  ∀ f : Frame, frameComplete (frameChars f) = true ∧ frameValid (frameChars f) = true ∧
    (frameChars f).length = 5 + (payloadBytes f.payload).length ∧ (frameChars f).length ≤ 17 ∧
    (frameChars f)[0]? = some (BitVec.ofNat 8 (kindCode f.payload)) ∧ (frameChars f)[1]? = some f.station ∧
    kindLength (kindCode f.payload) = some (payloadBytes f.payload).length

/-! ## Commissioning port -/

/-- PORT_SELECT and PORT_DESELECT (sections 9.2): the bit count is 0 when CPSEL goes low, and the first outgoing byte begins;
when CPSEL goes high the bits of an incomplete byte are discarded while the command, its position, the record buffer, the
reply and the operation stay; an outgoing byte that the edges of bits not yet sampled began goes no further. In STARTING no
byte begins. A byte that begins is the last result code with no reply present, the reply's byte of the present position past
the selecting parameters, and 0 after the reply's last byte. Edges of the clock come in any number in a tick, while CPSEL is
low and the part is not STARTING, and a byte's eighth rising edge is its command (log 13): a rising edge takes a bit; the
falling edge after it moves CPDO to the next bit, and after the eighth rising edge begins the next byte. CPDO carries a byte's
bits from the most significant on, and is released while CPSEL is high and in STARTING. -/
def Obligations.PortSelectionFramesBytes : Prop :=
  (∀ (p : Port) (bit : Bool),
    (p.fallDue = true → p.bitCount ≠ 0 → p.edge bit = { p with fallDue := false }) ∧
    (p.fallDue = true → p.bitCount = 0 → p.edge bit = { p with fallDue := false, outgoing := p.nextOut }) ∧
    (p.fallDue = false → p.bitCount < 7 → p.edge bit = { p with
      bitCount := p.bitCount + 1, incoming := p.incoming ++ [bit], fallDue := true }) ∧
    (p.fallDue = false → 7 ≤ p.bitCount → p.edge bit = p)) ∧
  ∀ s : State,
    (s.port.reply = none → s.port.nextOut = BitVec.ofNat 8 (resultNumber s.port.result)) ∧
    (∀ bytes, s.port.reply = some bytes →
      s.port.command = .active .readStatus ∨ s.port.command = .active .readCarriers →
      s.port.nextOut = bytes.getD s.port.position 0) ∧
    (∀ bytes, s.port.reply = some bytes →
      s.port.command = .active .readLane ∨ s.port.command = .active .readSlot → 1 ≤ s.port.position →
      s.port.nextOut = bytes.getD (s.port.position - 1) 0) ∧
    (s.pins.cpselLow = false →
      (s.startUp.node = .starting → exec .portSelect s = .next { s with
        pins := { s.pins with cpselLow := true }
        port := { s.port with incoming := [], bitCount := 0, fallDue := false } }) ∧
      (s.startUp.node ≠ .starting → exec .portSelect s = .next { s with
        pins := { s.pins with cpselLow := true }
        port := { s.port with incoming := [], bitCount := 0, fallDue := false, outgoing := s.port.nextOut } })) ∧
    (s.pins.cpselLow = true → ∀ bits : List Bool, exec (.portDeselect bits) s = .next { s with
      pins := { s.pins with cpselLow := false }
      port := { s.port with
        incoming := [], bitCount := 0, fallDue := false
        outgoing := if s.port.incoming.length < bits.length ∧ s.startUp.node ≠ .starting ∧ s.port.fallDue = true ∧ s.port.bitCount = 0 then
          s.port.nextOut else s.port.outgoing } }) ∧
    (s.pending = [] → ∃ t, step s = .next t ∧
      (s.pins.cpselLow = false ∨ s.startUp.node = .starting → t.port = s.port) ∧
      ∃ bits : List Bool, t.port = bits.foldl Port.edge s.port) ∧
    (s.pins.cpselLow = false ∨ s.startUp.node = .starting → s.cpdo = none) ∧
    (s.pins.cpselLow = true → s.startUp.node ≠ .starting →
      (s.port.fallDue = false → s.port.bitCount < 8 → s.cpdo = (byteBits s.port.outgoing)[s.port.bitCount]?) ∧
      (s.port.fallDue = true → 1 ≤ s.port.bitCount → s.port.bitCount < 8 →
        s.cpdo = (byteBits s.port.outgoing)[s.port.bitCount - 1]?) ∧
      (s.port.fallDue = true → s.port.bitCount = 0 → s.cpdo = (byteBits s.port.outgoing)[7]?))

/-- Command bytes (sections 9.2 and 9.3). With no operation and no command waiting, SET STATION, SET LINK, SET NEIGHBOURS,
WRITE SLOTS, WRITE LANES, CAPTURE ZERO and CAPTURE SPAN in CONFIGURING, and READ LANE and READ SLOT in either state, are in
progress at position 0 and change nothing else; an unknown code is refused as REFUSED_RANGE. Any of them, and STORE, START,
RESTART and READ CARRIERS, is refused as BUSY while an operation runs, and the writing ones, STORE and START as REFUSED_STATE
in RUN. A command still waiting for parameters is discarded as INCOMPLETE with its code, and a completed read ends; STORE,
START, RESTART, READ STATUS and READ CARRIERS then do what they do with no command in progress. The byte's eighth rising edge
is taken, with its falling edge to come, and the outgoing byte is the one that was due (log 13); the bits sampled before are its
first ones: where they are not, the byte is another one and the command has no effect (log 1). -/
def Obligations.CommandBytesBeginOrAreRefused : Prop :=
  ∀ s : State, s.pins.cpselLow = true → s.startUp.node ≠ .starting →
    ∀ begun refused : PortCommand → ResultCode → Nat → State,
      begun = (fun c r d => { s with
        port := { s.port with
          command := .active c, position := 0, params := [], recordBuffer := [], recordRefused := false, reply := none,
          result := r, detail := d, bitCount := 0, incoming := [], fallDue := true
          outgoing := if s.port.fallDue = true ∧ s.port.bitCount = 0 then s.port.nextOut else s.port.outgoing } }) →
      refused = (fun _ r d => { s with
        port := { s.port with
          command := .ignoring, params := [], recordBuffer := [], reply := none, result := r, detail := d,
          bitCount := 0, incoming := [], fallDue := true
          outgoing := if s.port.fallDue = true ∧ s.port.bitCount = 0 then s.port.nextOut else s.port.outgoing } }) →
      (∀ x ∈ [(Instr.setStation, PortCommand.setStation), (.setLink, .setLink), (.setNeighbours, .setNeighbours),
          (.writeSlots, .writeSlots), (.writeLanes, .writeLanes), (.captureZero, .captureZero),
          (.captureSpan, .captureSpan)], Forms s (BitVec.ofNat 8 (commandCode x.2)) →
        (s.port.operation = .none → s.startUp.node = .configuring →
          (s.port.command = .none ∨ s.port.command = .ignoring →
            exec x.1 s = .next (begun x.2 s.port.result s.port.detail)) ∧
          (∀ c, s.port.command = .active c → s.port.waiting c = true →
            exec x.1 s = .next (begun x.2 .incomplete (commandCode c))) ∧
          (∀ c, s.port.command = .active c → s.port.waiting c = false →
            exec x.1 s = .next (begun x.2 s.port.result s.port.detail))) ∧
        (s.port.operation ≠ .none → exec x.1 s = .next (refused x.2 .busy 0)) ∧
        (s.port.operation = .none → s.startUp.node = .run → exec x.1 s = .next (refused x.2 .refusedState 0))) ∧
      (∀ x ∈ [(Instr.readLane, PortCommand.readLane), (.readSlot, .readSlot)],
        Forms s (BitVec.ofNat 8 (commandCode x.2)) →
        (s.port.operation = .none →
          (s.port.command = .none ∨ s.port.command = .ignoring →
            exec x.1 s = .next (begun x.2 s.port.result s.port.detail)) ∧
          (∀ c, s.port.command = .active c → s.port.waiting c = true →
            exec x.1 s = .next (begun x.2 .incomplete (commandCode c))) ∧
          (∀ c, s.port.command = .active c → s.port.waiting c = false →
            exec x.1 s = .next (begun x.2 s.port.result s.port.detail))) ∧
        (s.port.operation ≠ .none → exec x.1 s = .next (refused x.2 .busy 0))) ∧
      (∀ x ∈ [(Instr.store, PortCommand.store), (.start, .start), (.restart, .restart), (.readCarriers, .readCarriers)],
        Forms s (BitVec.ofNat 8 (commandCode x.2)) → s.port.operation ≠ .none → exec x.1 s = .next (refused x.2 .busy 0)) ∧
      (∀ x ∈ [(Instr.store, PortCommand.store), (.start, .start)], Forms s (BitVec.ofNat 8 (commandCode x.2)) →
        s.port.operation = .none → s.startUp.node = .run → exec x.1 s = .next (refused x.2 .refusedState 0)) ∧
      (∀ x ∈ [(Instr.store, PortCommand.store), (.start, .start), (.restart, .restart), (.readStatus, .readStatus),
          (.readCarriers, .readCarriers)], Forms s (BitVec.ofNat 8 (commandCode x.2)) → ∀ c, s.port.command = .active c →
        exec x.1 s = exec x.1 { s with
          port := { s.port with
            command := .none, params := [], recordBuffer := [], reply := none, fallDue := false
            outgoing := if s.port.fallDue = true ∧ s.port.bitCount = 0 then s.port.nextOut else s.port.outgoing
            result := if s.port.waiting c = true then .incomplete else s.port.result
            detail := if s.port.waiting c = true then commandCode c else s.port.detail } }) ∧
      (∀ x ∈ [(Instr.setStation, PortCommand.setStation), (.setLink, .setLink), (.setNeighbours, .setNeighbours),
          (.writeSlots, .writeSlots), (.writeLanes, .writeLanes), (.captureZero, .captureZero),
          (.captureSpan, .captureSpan), (.store, .store), (.start, .start), (.restart, .restart),
          (.readStatus, .readStatus), (.readLane, .readLane), (.readSlot, .readSlot), (.readCarriers, .readCarriers)],
        ¬ Forms s (BitVec.ofNat 8 (commandCode x.2)) → exec x.1 s = .next s) ∧
      (∀ code, ¬ Forms s code → exec (.unknownCommand code) s = .next s ∧ exec (.parameterByte code) s = .next s) ∧
      (∀ code c, Forms s code → (s.port.operation = .none → exec (.unknownCommand code) s = .next (refused c .refusedRange 0)) ∧
        (s.port.operation ≠ .none → exec (.unknownCommand code) s = .next (refused c .busy 0)))

/-- PARAMETER_BYTE of the commands that write the working copy (sections 9.4 and 9.5): the last byte of SET STATION, SET LINK
and SET NEIGHBOURS applies all parameters together with result OK, and the eighth byte of a slot record applies it clamped; a
station outside 1 to 120, an unknown bit rate code and a count above 4 are refused at position 0 with nothing written; a byte
before the last is kept and writes nothing. SET NEIGHBOURS keeps the stations in the order given, of a repeated one the first.
The two index bytes of WRITE SLOTS, 0 to 7, and of WRITE LANES, 1 to 4, set the window with result OK; one out of its range is
refused at its position, 0 or 1, and so is an end below the start; the bytes of a record before its last, 8 for a slot and 16
for a lane, gather in the record buffer. With no command in progress a byte is ignored. The bits that the port has
sampled are a beginning of the byte (section 9.2). -/
def Obligations.ParametersWriteTheWorkingCopy : Prop :=
  ∀ (s : State) (b : Byte), s.pins.cpselLow = true → s.startUp.node = .configuring → Forms s b →
    (s.port.command = .none ∨ s.port.command = .ignoring →
      ∃ t, exec (.parameterByte b) s = .next t ∧
        t = { s with port := { s.port with
          outgoing := t.port.outgoing, bitCount := 0, incoming := [], fallDue := true } }) ∧
    (s.port.command = .active .setStation → ∃ t, exec (.parameterByte b) s = .next t ∧
      (1 ≤ b.toNat → b.toNat ≤ 120 → t.working = { s.working with
          station := b.toNat, neighbours := s.working.neighbours.filter fun n => decide (n ≠ b.toNat) } ∧
        t.port.result = .ok ∧ t.port.detail = 0 ∧ t.port.command = .none) ∧
      (b.toNat = 0 ∨ 120 < b.toNat → t.working = s.working ∧ t.port.result = .refusedRange ∧ t.port.detail = 0 ∧
        t.port.command = .ignoring) ∧
      t = { s with working := t.working, port := t.port }) ∧
    (s.port.command = .active .setLink → ∃ t, exec (.parameterByte b) s = .next t ∧
      (s.port.params = [] → t.working = s.working ∧
        (b ≠ 1 → b ≠ 2 → t.port.result = .refusedRange ∧ t.port.detail = 0 ∧ t.port.command = .ignoring) ∧
        (b = 1 ∨ b = 2 → t.port.params = [b] ∧ t.port.command = .active .setLink ∧
          t.port.result = s.port.result ∧ t.port.detail = s.port.detail)) ∧
      (∀ code, (code = 1 ∨ code = 2) → s.port.params = [code] → t.working = s.working ∧ t.port.params = [code, b] ∧
        t.port.command = .active .setLink ∧ t.port.result = s.port.result ∧ t.port.detail = s.port.detail) ∧
      (∀ code window, (code = 1 ∨ code = 2) → s.port.params = [code, window] →
        t.working = { s.working with
          bitRate := if code = 1 then .k50 else .k100
          matchWindow := max 5 (min 120 window.toNat), shockLevel := max 1 (min 4 b.toNat) } ∧
        t.port.result = .ok ∧ t.port.detail = 0 ∧ t.port.command = .none) ∧
      t = { s with working := t.working, port := t.port }) ∧
    (s.port.command = .active .setNeighbours → ∃ t, exec (.parameterByte b) s = .next t ∧
      (s.port.params = [] → 4 < b.toNat →
        t.working = s.working ∧ t.port.result = .refusedRange ∧ t.port.detail = 0 ∧ t.port.command = .ignoring) ∧
      (s.port.params = [] → b = 0 → t.working = { s.working with neighbours := [] } ∧ t.port.result = .ok ∧
        t.port.detail = 0 ∧ t.port.command = .none) ∧
      (s.port.params = [] → 1 ≤ b.toNat → b.toNat ≤ 4 → t.working = s.working ∧ t.port.params = [b] ∧
        t.port.command = .active .setNeighbours ∧ t.port.result = s.port.result ∧ t.port.detail = s.port.detail) ∧
      (∀ count given, s.port.params = count :: given → count.toNat ≤ 4 →
        (given.length + 1 < count.toNat → t.working = s.working ∧ t.port.params = count :: (given ++ [b]) ∧
          t.port.command = .active .setNeighbours ∧ t.port.result = s.port.result ∧ t.port.detail = s.port.detail) ∧
        (given.length + 1 = count.toNat → t.port.result = .ok ∧ t.port.detail = 0 ∧ t.port.command = .none ∧
          t.working = { s.working with neighbours := t.working.neighbours } ∧ t.working.neighbours.Nodup ∧
          t.working.neighbours.Sublist ((given ++ [b]).map BitVec.toNat) ∧
          (t.working.neighbours.Pairwise fun m n =>
            ((given ++ [b]).map BitVec.toNat).idxOf m < ((given ++ [b]).map BitVec.toNat).idxOf n) ∧
          ∀ n, n ∈ t.working.neighbours ↔
            n ∈ (given ++ [b]).map BitVec.toNat ∧ 1 ≤ n ∧ n ≤ 120 ∧ n ≠ s.working.station)) ∧
      t = { s with working := t.working, port := t.port }) ∧
    (∀ x ∈ [(PortCommand.writeSlots, 0, 7, 8), (.writeLanes, 1, 4, 16)], s.port.command = .active x.1 →
      (s.port.params = [] → ∃ t, exec (.parameterByte b) s = .next t ∧
        (x.2.1 ≤ b.toNat → b.toNat ≤ x.2.2.1 → t.port.params = [b] ∧ t.port.command = .active x.1 ∧
          t.port.result = s.port.result ∧ t.port.detail = s.port.detail) ∧
        (b.toNat < x.2.1 ∨ x.2.2.1 < b.toNat →
          t.port.result = .refusedRange ∧ t.port.detail = 0 ∧ t.port.command = .ignoring) ∧
        t = { s with port := t.port }) ∧
      (∀ first, s.port.params = [first] → ∃ t, exec (.parameterByte b) s = .next t ∧
        (x.2.1 ≤ b.toNat → b.toNat ≤ x.2.2.1 → first.toNat ≤ b.toNat →
          t.port.params = [first, b] ∧ t.port.windowCounter = first.toNat ∧ t.port.recordBuffer = [] ∧
          t.port.command = .active x.1 ∧ t.port.result = .ok ∧ t.port.detail = 0) ∧
        (b.toNat < x.2.1 ∨ x.2.2.1 < b.toNat ∨ b.toNat < first.toNat →
          t.port.result = .refusedRange ∧ t.port.detail = 1 ∧ t.port.command = .ignoring) ∧
        t = { s with port := t.port }) ∧
      (∀ first last, s.port.params = [first, last] → s.port.recordBuffer.length + 1 < x.2.2.2 →
        ∃ t, exec (.parameterByte b) s = .next t ∧ t.port.recordBuffer = s.port.recordBuffer ++ [b] ∧
          t.port.params = [first, last] ∧ t.port.windowCounter = s.port.windowCounter ∧ t.port.command = .active x.1 ∧
          t.port.result = s.port.result ∧ t.port.detail = s.port.detail ∧ t = { s with port := t.port })) ∧
    (∀ (first last b0 b1 b2 b3 b4 b5 b6 : Byte) (i : Slot), s.port.command = .active .writeSlots →
      s.port.params = [first, last] → s.port.windowCounter = i.val →
      s.port.recordBuffer = [b0, b1, b2, b3, b4, b5, b6] →
      ∃ t, exec (.parameterByte b) s = .next t ∧
        t.working = { s.working with
          slots := s.working.slots.set i.val
            { article := b0.toNat * 65536 + b1.toNat * 256 + b2.toNat
              reorderPoint := min 3996 (b3.toNat * 256 + b4.toNat)
              hysteresis := max 1 (min 500 (b5.toNat * 256 + b6.toNat)) } i.isLt } ∧
        t.port.recordBuffer = [] ∧ t.port.result = s.port.result ∧
        t.port.windowCounter = (if i.val = last.toNat then first.toNat else i.val + 1) ∧
        t = { s with working := t.working, port := t.port })

/-- The last byte of a lane record (section 9.5), taken in CONFIGURING: refused with REFUSED_RANGE and the lane as
detail when the unit weight or the slot index is out of range, the record and calibration kept; otherwise applied with its
fields clamped, the calibration kept by a span field of 0 and set, as captured, by any other. -/
def Obligations.LaneRecordsApply : Prop :=
  ∀ (s : State) (l : Lane) (bytes : List Byte) (b first last : Byte) (new : List Byte),
    s.pins.cpselLow = true → s.startUp.node = .configuring → Forms s b → s.port.command = .active .writeLanes →
    s.port.params = [first, last] → s.port.windowCounter = l.number → bytes.length = 15 →
    s.port.recordBuffer = bytes → new = bytes ++ [b] → ∀ field : Nat → Nat, field = (fun k => (new.getD k 0).toNat) →
    ∃ t, exec (.parameterByte b) s = .next t ∧ t.port.recordBuffer = [] ∧
      t.port.windowCounter = (if l.number = last.toNat then first.toNat else l.number + 1) ∧
      (field 1 * 256 + field 2 < 5 ∨ 30000 < field 1 * 256 + field 2 ∨ 8 ≤ field 0 % 128 →
        t.working = s.working ∧ (s.port.recordRefused = false →
          t.port.result = .refusedRange ∧ t.port.detail = l.number)) ∧
      (5 ≤ field 1 * 256 + field 2 → field 1 * 256 + field 2 ≤ 30000 → field 0 % 128 < 8 →
        (laneOf t.working l).enabled = decide (128 ≤ field 0) ∧ (laneOf t.working l).slot.val = field 0 % 128 ∧
        (laneOf t.working l).unitWeight = field 1 * 256 + field 2 ∧
        (laneOf t.working l).allowance = min 200 (field 3) ∧
        (laneOf t.working l).baseTol = max 1 (min 2000 (field 4 * 256 + field 5)) ∧
        (laneOf t.working l).motion = max 2 (min 5000 (field 6 * 256 + field 7)) ∧
        (laneOf t.working l).band = max 1 (min 500 (field 8 * 256 + field 9)) ∧
        (laneOf t.working l).settleCount = max 4 (min 64 (field 10)) ∧
        (field 14 * 256 + field 15 = 0 → (laneOf t.working l).zeroCode = (laneOf s.working l).zeroCode ∧
          (laneOf t.working l).span = (laneOf s.working l).span ∧
          (laneOf t.working l).spanCaptured = (laneOf s.working l).spanCaptured) ∧
        (field 14 * 256 + field 15 ≠ 0 →
          (laneOf t.working l).zeroCode = (if field 11 < 128 then
              ((field 11 * 65536 + field 12 * 256 + field 13 : Nat) : Int)
            else ((field 11 * 65536 + field 12 * 256 + field 13 : Nat) : Int) - 16777216) ∧
          (laneOf t.working l).span = field 14 * 256 + field 15 ∧ (laneOf t.working l).spanCaptured = true) ∧
        t.port.result = s.port.result ∧ t.port.detail = s.port.detail) ∧
      (∀ m, m ≠ l → laneOf t.working m = laneOf s.working m) ∧
      t = { s with
        working := { s.working with lanes := t.working.lanes }, port := t.port }

/-- A capture (section 9.6), of a zero or of a span. CAPTURE ZERO takes a lane and CAPTURE SPAN a lane and the load in three
bytes: a lane that is none is refused at position 0, a load outside 100 to 99,999 g at the load's position 1 when its last
byte has come (that it is judged then is the model's choice, log 26); the last parameter begins the capture as BUSY, or fails
it in supply hold. A sample of its lane adds its raw code; a saturated one ends it with CAPTURE_FAILED and the lane; the 32nd
writes Z as the mean of the codes rounded, or S as load × 65,536 × 32 over the sum less 32 × Z when that is from 1 to 65,535,
and otherwise REFUSED_RANGE with the calibration kept. A supply hold that begins as the 32nd sample completes fails the
capture, the sample staying the lane's last: that the model remembers it for that instant is its own form (log 28). -/
def Obligations.CapturesTakeThirtyTwoSamples : Prop :=
  ∀ (s : State) (l : Lane),
    (∀ (b : Byte) (op : Operation) (load : Nat), s.pins.cpselLow = true → s.startUp.node = .configuring → Forms s b →
      (s.port.command = .active .captureZero ∧ b.toNat = l.number ∧ op = .captureZero ∧ load = 0 ∨
        ∃ lane b1 b2 : Byte, s.port.command = .active .captureSpan ∧ s.port.params = [lane, b1, b2] ∧
          lane.toNat = l.number ∧ op = .captureSpan ∧ load = b1.toNat * 65536 + b2.toNat * 256 + b.toNat ∧
          100 ≤ load ∧ load ≤ 99999) →
      ∃ t, exec (.parameterByte b) s = .next t ∧ t.port.command = .none ∧
        (s.frontEnd.supplyHold = false → t.port.operation = op ∧ t.port.result = .busy ∧ t.port.detail = 0 ∧
          t.port.capture = some { lane := l, load := load, samples := 0, sum := 0 }) ∧
        (s.frontEnd.supplyHold = true → t.port.operation = s.port.operation ∧ t.port.capture = s.port.capture ∧
          t.port.result = .captureFailed ∧ t.port.detail = l.number) ∧
        t = { s with port := t.port }) ∧
    (∀ b : Byte, s.pins.cpselLow = true → s.startUp.node = .configuring → Forms s b →
      ∃ t, exec (.parameterByte b) s = .next t ∧
      (∀ position,
        (s.port.command = .active .captureZero ∨ s.port.command = .active .captureSpan ∧ s.port.params = []) ∧
            (∀ m : Lane, b.toNat ≠ m.number) ∧ position = 0 ∨
          (∃ lane b1 b2 : Byte, s.port.command = .active .captureSpan ∧ s.port.params = [lane, b1, b2] ∧
            lane.toNat = l.number ∧ (b1.toNat * 65536 + b2.toNat * 256 + b.toNat < 100 ∨
              99999 < b1.toNat * 65536 + b2.toNat * 256 + b.toNat) ∧ position = 1) →
        t.port.result = .refusedRange ∧ t.port.detail = position ∧ t.port.command = .ignoring ∧
          t.port.operation = s.port.operation ∧ t.port.capture = s.port.capture ∧
          t = { s with port := t.port }) ∧
      (s.port.command = .active .captureSpan →
        s.port.params = [] ∧ b.toNat = l.number ∨
          (∃ lane : Byte, lane.toNat = l.number ∧ (s.port.params = [lane] ∨ ∃ b1, s.port.params = [lane, b1])) →
        t.port.params = s.port.params ++ [b] ∧ t.port.command = .active .captureSpan ∧
          t.port.operation = s.port.operation ∧ t.port.result = s.port.result ∧
          t = { s with port := t.port })) ∧
    (∀ c code first, s.startUp.node = .configuring → Converts s l → (s.lane l).warmUp = 0 → s.port.capture = some c →
      c.lane = l → ∃ t, exec (.sampleEvent l code first) s = .next t ∧
        (code.toInt = 8388607 ∨ code.toInt = -8388608 → t.working = s.working ∧ t.port = { s.port with
          operation := .none, capture := none, result := .captureFailed, detail := l.number }) ∧
        (code.toInt ≠ 8388607 → code.toInt ≠ -8388608 → c.samples + 1 < 32 → t.working = s.working ∧
          t.port = { s.port with
            capture := some { c with samples := c.samples + 1, sum := c.sum + code.toInt } }) ∧
        (code.toInt ≠ 8388607 → code.toInt ≠ -8388608 → c.samples + 1 = 32 →
          t.port.operation = .none ∧ t.port.capture = none ∧ t.port.detail = 0 ∧
          (∀ m, m ≠ l → laneOf t.working m = laneOf s.working m) ∧
          (s.port.operation = .captureZero → t.port.result = .ok ∧ ∃ z, RoundsTo (c.sum + code.toInt) 32 z ∧
            laneOf t.working l = { laneOf s.working l with zeroCode := z }) ∧
          (s.port.operation = .captureSpan → ∀ den, den = c.sum + code.toInt - 32 * (laneOf s.working l).zeroCode →
            (den ≤ 0 → t.port.result = .refusedRange ∧ t.working = s.working) ∧
            (0 < den → ∃ q, RoundsTo ((c.load : Int) * 65536 * 32) den.toNat q ∧
              (1 ≤ q ∧ q ≤ 65535 → t.port.result = .ok ∧ laneOf t.working l = { laneOf s.working l with
                span := q.toNat, spanCaptured := true }) ∧
              (q < 1 ∨ 65535 < q → t.port.result = .refusedRange ∧ t.working = s.working)))) ∧
        t = { s with
          working := { s.working with lanes := t.working.lanes }, port := t.port, lanes := t.lanes
          frontEnd := { s.frontEnd with conversionsDue := s.frontEnd.conversionsDue.tail, lateSample := none } }) ∧
    (∀ c code first, s.startUp.node = .configuring → Converts s l → (s.lane l).warmUp = 0 → s.port.capture = some c →
      c.lane = l → c.samples = 31 → s.port.operation = .captureZero ∨ s.port.operation = .captureSpan →
      s.frontEnd.dipFilter = .running 0 →
      ∃ m t, exec .dipFilterExpiry s = .next m ∧ exec (.sampleEvent l code first) m = .next t ∧
        (t.lane l).lastSample =
          sampleOf (laneOf s.working l) ((s.lane l).counting.arithmeticOffset first) code ∧
        (∀ k, k ≠ l → t.lane k = s.lane k) ∧ t.working = s.working ∧ t.frontEnd.supplyHold = true ∧
        t.port = { s.port with
          operation := .none, capture := none, result := .captureFailed, detail := l.number } ∧
        exec (.sampleEvent l code first) t = .next t)

/-! ## Start-up and store -/

/-- STORE, STORE_COMPLETE and START in CONFIGURING with no operation running and no command waiting (sections 9.7, 10.3 to
10.6): STORE clears the marker and is BUSY in the phase MARKER CLEARED with the image as it was, or ends as STORE_FAILED in
supply hold; its last step writes the working copy as the image and makes the marker VALID; START enters RUN with the working
copy as running configuration, every block at its RUN entry state (`RunEntered`: the supply items and the lanes' last samples
kept, the conversions of a round in progress not made) and the result OK, or gives REFUSED_CHECK with the first failing reason
and changes nothing else. That WRITING begins at the next tick, if the last step has not come, and the image is written whole
at the last step, is the model's choice (log 12). -/
def Obligations.StoreAndStartFromASession : Prop :=
  ∀ s : State, s.startUp.node = .configuring →
    (s.port.operation = .store → s.startUp.storePhase ≠ .none → ∃ t, exec .storeComplete s = .next t ∧
      t.startUp = { s.startUp with image := s.working, markerValid := true, storePhase := .none } ∧
      t.port = { s.port with operation := .none, result := .ok, detail := 0 } ∧
      t = { s with startUp := t.startUp, port := t.port }) ∧
    (s.pins.cpselLow = true → s.port.operation = .none →
      s.port.command = .none ∨ s.port.command = .ignoring →
      (Forms s 28 → ∃ t, exec .store s = .next t ∧
        (s.frontEnd.supplyHold = true → t.startUp = s.startUp ∧ t.port.operation = .none ∧
          t.port.result = .storeFailed) ∧
        (s.frontEnd.supplyHold = false →
          t.startUp = { s.startUp with markerValid := false, storePhase := .markerCleared } ∧
          t.port.operation = .store ∧ t.port.result = .busy) ∧
        t = { s with startUp := t.startUp, port := t.port }) ∧
      (∀ reason, Forms s 29 → validate s.working = some reason → ∃ t, exec .start s = .next t ∧
        t.port.result = .refusedCheck ∧ t.port.detail = reason ∧ t = { s with port := t.port }) ∧
      (Forms s 29 → validate s.working = none → ∃ t, exec .start s = .next t ∧
        RunEntered t s.working s.now s.frontEnd (fun l => (s.lane l).lastSample) ∧
        t.startUp = { s.startUp with node := .run } ∧ t.port.result = .ok ∧ t.port.detail = 0 ∧
        t.port.operation = .none ∧ t.port.command = .none ∧ t.pins = s.pins ∧ t.now = s.now ∧ t.pending = s.pending)) ∧
    (∀ reason, validate s.working = some reason ↔
      (s.working.station = 0 ∨ 120 < s.working.station) ∧ reason = 1 ∨
      (1 ≤ s.working.station ∧ s.working.station ≤ 120) ∧
        ((∀ l, (laneOf s.working l).enabled = false) ∧ reason = 2 ∨
          ∃ l, (laneOf s.working l).enabled = true ∧
            (∀ m, m.number < l.number → (laneOf s.working m).enabled = true →
              articleOfLane s.working m ≠ 0 ∧ (laneOf s.working m).spanCaptured = true) ∧
            (articleOfLane s.working l = 0 ∧ reason = 16 + l.number ∨
              articleOfLane s.working l ≠ 0 ∧ (laneOf s.working l).spanCaptured = false ∧ reason = 32 + l.number)))

/-- The restarts (sections 10.1): RESTART, POWER_ON, SUPPLY_DIP and PIN clear every block, record their cause and, unless VDD
is below the restart level or RESETN low, start the delay at 25 ms; a STORE in progress leaves the marker INVALID, the image
as it was before its WRITING phase and open in it (log 3), and with none in progress image and marker stay; a loss of the
record during a held restart makes the cause POWER_ON at the release, which starts the delay. -/
def Obligations.RestartsClearEveryBlock : Prop :=
  ∀ s : State, ∀ cleared : RestartCause → Bool → State → Prop,
    cleared = (fun cause held t =>
      AtRest t ∧ t.startUp.node = .starting ∧ t.startUp.cause = cause ∧ t.startUp.indicatorClock = none ∧
      t.startUp.storePhase = .none ∧ t.startUp.startDelay = (if held = true then .stopped else .running 25000) ∧
      (s.startUp.storePhase = .none →
        t.startUp.image = s.startUp.image ∧ t.startUp.markerValid = s.startUp.markerValid) ∧
      (s.startUp.storePhase ≠ .none → t.startUp.markerValid = false) ∧
      (s.startUp.storePhase = .markerCleared → t.startUp.image = s.startUp.image) ∧
      t.port = Port.cleared ∧ t.frontEnd.shockLatch = false ∧ t.frontEnd.supplyHold = false ∧
      t.frontEnd.dipFilter = .stopped ∧ t.frontEnd.excitation = .good ∧ t.frontEnd.badRun = 0 ∧
      t.frontEnd.goodRun = 0 ∧ t.frontEnd.roundTimer = .stopped ∧
      (∀ l, (t.lane l).warmUp = 8 ∧ (t.lane l).lastSample = { raw := 0, cls := .rawOnly, grams := none }) ∧
      t.pending = s.pending ∧ t.pins.cpselLow = s.pins.cpselLow) →
    (s.pins.cpselLow = true → s.startUp.node ≠ .starting → Forms s 30 → s.port.operation = .none → s.pins.vdd = .belowHold ∨
        s.pins.vdd = .atHold → ∃ t, exec .restart s = .next t ∧ cleared .command s.pins.resetnLow t ∧
      t.pins = s.pins) ∧
    (∀ high, ∃ t, exec (.powerOn high) s = .next t ∧ cleared .powerOn s.pins.resetnLow t ∧
      t.pins = { s.pins with vdd := if high = true then .atHold else .belowHold }) ∧
    (∃ t, exec .supplyDip s = .next t ∧ cleared .supplyDip true t ∧ t.pins.resetnLow = s.pins.resetnLow) ∧
    (∃ t, exec .pin s = .next t ∧ cleared .pin true t ∧ t.pins = { s.pins with resetnLow := true }) ∧
    (s.startUp.node = .starting → s.startUp.startDelay = .stopped →
      exec .retentionLoss s = .next { s with
        pins := { s.pins with vdd := .belowRetention }, startUp := { s.startUp with causeLost := true } } ∧
      ∀ high, exec (.restartRelease high) s = .next { s with
        pins := { s.pins with vdd := if high = true then .atHold else .belowHold, resetnLow := false }
        startUp := { s.startUp with
          startDelay := .running 25000, causeLost := false
          cause := if s.startUp.causeLost = true then .powerOn else s.startUp.cause } })

/-- START_DECISION at the end of the start delay, from a part at rest (sections 10.2 and 10.6): RUN with the image where the
marker is VALID, CPSEL high and the image passes validation, every block at its RUN entry state (`RunEntered`); CONFIGURING
otherwise, with the working copy from a VALID image or else the defaults, and with REFUSED_CHECK and the first failing reason
as last result where a VALID image fails. The delay is STOPPED, the indicator clock starts, the front end's items take the
values of section 1.9, with a warm-up count of 8 and no last sample in every lane, and the dip filter starts at once when VDD
is below the hold level. A delay that has not run out decides nothing. -/
def Obligations.StartDecisionEntersRunOrConfiguring : Prop :=
  ∀ s : State, s.startUp.node = .starting →
    (s.startUp.startDelay ≠ .running 0 → exec .startDecision s = .next s) ∧
    (s.startUp.startDelay = .running 0 → RestsOutsideRun s →
    ∃ t, exec .startDecision s = .next t ∧
      t.startUp = { s.startUp with
        node := t.startUp.node, startDelay := .stopped, indicatorClock := some 0 } ∧
      (t.startUp.node = .run ↔
        s.startUp.markerValid = true ∧ s.pins.cpselLow = false ∧ validate s.startUp.image = none) ∧
      (t.startUp.node ≠ .run → t.startUp.node = .configuring) ∧
      t.working = (if s.startUp.markerValid = true then s.startUp.image else NodeConfig.default) ∧
      (t.startUp.node = .run → RunEntered t s.startUp.image s.now t.frontEnd
        fun _ => { raw := 0, cls := .rawOnly, grams := none }) ∧
      (t.startUp.node = .configuring → AtRest t ∧ t.running = s.running ∧
        ∀ l, t.lane l = { s.lane l with
          warmUp := 8, lastSample := { raw := 0, cls := .rawOnly, grams := none } }) ∧
      (∀ l, (t.lane l).warmUp = 8 ∧ (t.lane l).lastSample = { raw := 0, cls := .rawOnly, grams := none }) ∧
      (∀ reason, s.startUp.markerValid = true → validate s.startUp.image = some reason →
        t.port.result = .refusedCheck ∧ t.port.detail = reason) ∧
      (s.startUp.markerValid = false ∨ validate s.startUp.image = none → t.port.result = .ok ∧ t.port.detail = 0) ∧
      t.port.command = .none ∧ t.port.operation = .none ∧ t.port.reply = none ∧
      t.frontEnd.mode = .fast ∧ t.frontEnd.roundTimer = .running 0 ∧ t.frontEnd.supplyHold = false ∧
      t.frontEnd.excitation = .good ∧ t.frontEnd.shockLatch = false ∧ t.frontEnd.badRun = 0 ∧
      t.frontEnd.goodRun = 0 ∧ t.frontEnd.quietTimer = .stopped ∧ t.frontEnd.spacingTimer = .stopped ∧
      t.frontEnd.checkDue = false ∧ t.frontEnd.conversionsDue = [] ∧
      t.frontEnd.dipFilter = (if s.pins.vdd = .atHold then .stopped else .running 2000) ∧ t.pins = s.pins)

/-- The reads (sections 9.8 and 12.3): READ STATUS and READ CARRIERS build their reply at the command byte and READ LANE and
READ SLOT at the selector, of 24, 224, 83 and 22 bytes, each item of section 12.3 at its bytes, most significant first;
remaining times are rounded up to whole seconds, the hold time to milliseconds (that it is rounded up is the model's reading,
log 16), and an absent figure reads 0; a flag that has a byte alone is its bit 0 (READ STATUS byte 22, READ LANE bytes 39 and
71: the model's choice, log 33). The reply begins with the byte after. READ STATUS leaves the last result, the others set OK;
a selector out of range is refused at position 0. No block but the port changes. -/
def Obligations.ReadsBuildTheirReplies : Prop :=
  ∀ s : State, s.pins.cpselLow = true → s.startUp.node ≠ .starting →
    s.statusReply.length = 24 ∧ (∀ l, (s.laneReply l).length = 83) ∧ (∀ i, (s.slotReply i).length = 22) ∧
    s.carriersReply.length = 224 ∧
    (∀ t k : Nat, (wholeSeconds t ≤ k ↔ t ≤ k * 1000000) ∧ (wholeMs t ≤ k ↔ t ≤ k * 1000)) ∧
    (∀ x ∈ ([(0, 1, nodeCode s.startUp.node), (1, 1, causeCode s.startUp.cause), (2, 1, s.config.station),
        (3, 1, resultNumber s.port.result), (4, 1, s.port.detail), (5, 1, operationCode s.port.operation),
        (6, 1, (s.port.capture.map fun c => c.lane.number).getD 0), (7, 1, (s.port.capture.map Capture.samples).getD 0),
        (8, 1, if s.frontEnd.mode = .slow then 1 else 0),
        (9, 1, flagBit 0 s.frontEnd.supplyHold + flagBit 1 (decide (s.frontEnd.excitation = .bad))),
        (10, 1, s.matcher.pendingOut.length), (11, 1, s.matcher.heard.length), (12, 1, s.matcher.tagCounter.toNat),
        (13, 1, s.carrierEntries.length), (14, 1, settlingInCode s.settlingIn),
        (15, 1, wholeSeconds s.settlingIn.remaining), (16, 1, linkCode s.link.state), (17, 1, s.link.health),
        (18, 1, wholeSeconds s.link.quarantineTimer.remaining),
        (19, 1, flagBit 0 s.link.addressConflict + flagBit 1 (decide (s.config.bitRate = .k100))),
        (20, 1, s.queue.requests.length), (21, 1, claimsHeld s.queue.requests),
        (22, 1, flagBit 0 s.queue.restartFlag), (23, 1, flagBit 0 s.startUp.markerValid)] : List (Nat × Nat × Nat)),
      CarriesAt s.statusReply x.1 x.2.1 x.2.2) ∧
    (∀ (l : Lane) (c : LaneRecord) (u : LaneUnit) (v : SettleReport), c = laneOf s.config l → u = s.lane l →
      v = u.counting.report →
      ∀ x ∈ ([(0, 1, flagBit 7 c.enabled + c.slot.val), (1, 2, c.unitWeight), (3, 1, c.allowance), (4, 2, c.baseTol),
          (6, 2, c.motion), (8, 2, c.band), (10, 1, c.settleCount), (11, 3, (BitVec.ofInt 24 c.zeroCode).toNat),
          (14, 2, if c.spanCaptured = true then c.span else 0), (16, 3, (BitVec.ofInt 24 u.lastSample.raw).toNat),
          (19, 1, sampleClassCode u.lastSample.cls), (20, 3, (BitVec.ofInt 24 (u.lastSample.grams.getD 0)).toNat),
          (23, 1, laneStateCode u.settler.state), (24, 1, u.settler.window.length),
          (25, 2, if u.settler.window.length = 8 then min 65535 (spread u.settler.window).toNat else 0),
          (27, 3, (BitVec.ofInt 24 u.settler.reference).toNat), (30, 1, u.settler.settleCounter),
          (31, 1, flagBit 0 u.settler.known + flagBit 1 u.settler.supplyWait),
          (32, 2, wholeMs u.settler.holdTimer.remaining), (34, 1, u.settler.outOfRangeRun),
          (35, 1, u.settler.inRangeRun), (36, 2, u.counting.count), (38, 1, u.counting.doubt),
          (39, 1, flagBit 0 u.counting.audit), (40, 2, (BitVec.ofInt 16 u.counting.zeroOffset).toNat),
          (42, 2, u.counting.tallies.picks), (44, 2, u.counting.tallies.relocatedOut),
          (46, 2, u.counting.tallies.matchedIn), (48, 2, u.counting.tallies.restockIn),
          (50, 2, u.counting.tallies.foreignSeen), (52, 1, outcomeCode v.outcome),
          (53, 3, (BitVec.ofInt 24 (v.filtered.getD 0)).toNat), (56, 3, (BitVec.ofInt 24 (v.effective.getD 0)).toNat),
          (59, 2, v.n.getD 0), (61, 4, (BitVec.ofInt 32 (v.residual.getD 0)).toNat), (65, 3, v.tolerance.getD 0),
          (68, 2, (BitVec.ofInt 16 (v.movement.getD 0)).toNat),
          (70, 1, flagBit 0 (v.accepted.getD false) + flagBit 1 (v.zeroTracked.getD false)),
          (71, 1, flagBit 0 u.foreign.isSome), (72, 3, (u.foreign.map ForeignRecord.article).getD 0),
          (75, 3, (u.foreign.map fun r => r.grams.toNat).getD 0), (78, 1, (u.foreign.map ForeignRecord.origin).getD 0),
          (79, 1, (u.foreign.map fun r => r.tag.toNat).getD 0),
          (80, 1, flagBit 0 u.notice.audit + flagBit 1 u.notice.foreign + flagBit 2 u.notice.fault),
          (81, 1, wholeSeconds u.notice.timer.remaining), (82, 1, indicatorCode u.notice.indicator)]
          : List (Nat × Nat × Nat)),
        CarriesAt (s.laneReply l) x.1 x.2.1 x.2.2) ∧
    (∀ (i : Slot) (c : SlotRecord) (u : SlotUnit), c = slotOf s.config i → u = s.slot i →
      ∀ x ∈ ([(0, 3, c.article), (3, 2, c.reorderPoint), (5, 2, c.hysteresis),
          (7, 1, slotClassCode (slotClass s.config i)), (8, 2, u.holding),
          (10, 1, flagBit 0 u.ready + flagBit 1 u.uncertain),
          (11, 3, if slotClass s.config i = .article then s.combined i else 0),
          (14, 1, wholeSeconds u.refreshTimer.remaining),
          (15, 1, (s.carrierEntries.filter fun e => decide (e.slot = i)).length), (16, 1, alertStateCode u.alert),
          (17, 1, lastSentCode u.lastSent), (18, 1, wholeSeconds u.takeoverTimer.remaining),
          (19, 1, wholeSeconds u.repeatTimer.remaining), (20, 2, wholeSeconds u.muteTimer.remaining)]
          : List (Nat × Nat × Nat)),
        CarriesAt (s.slotReply i) x.1 x.2.1 x.2.2) ∧
    (∀ p : Fin 32,
      (s.carriers[p] = none → CarriesAt s.carriersReply (7 * p.val) 7 0) ∧
      (∀ e, s.carriers[p] = some e →
        ∀ x ∈ ([(0, 1, e.station), (1, 1, e.slot.val), (2, 2, e.holding),
            (4, 1, flagBit 0 e.uncertain + flagBit 1 (decide (e.band = .stale))), (5, 2, e.age / 1000000)]
            : List (Nat × Nat × Nat)),
          CarriesAt s.carriersReply (7 * p.val + x.1) x.2.1 x.2.2)) ∧
    (∀ out, out = (if s.port.fallDue = true ∧ s.port.bitCount = 0 then s.port.nextOut else s.port.outgoing) →
      (s.port.command = .none ∨ s.port.command = .ignoring →
        (Forms s 32 → ∃ t, exec .readStatus s = .next t ∧ t.port.reply = some s.statusReply ∧
          t.port.command = .active .readStatus ∧ t.port.position = 0 ∧ t.port.result = s.port.result ∧
          t.port.detail = s.port.detail ∧ t.port.operation = s.port.operation ∧ t.port.outgoing = out ∧
          t.port.nextOut = s.statusReply.getD 0 0 ∧ t = { s with port := t.port }) ∧
        (Forms s 35 → s.port.operation = .none → ∃ t, exec .readCarriers s = .next t ∧ t.port.reply = some s.carriersReply ∧
          t.port.command = .active .readCarriers ∧ t.port.position = 0 ∧ t.port.result = .ok ∧ t.port.detail = 0 ∧
          t.port.outgoing = out ∧ t.port.nextOut = s.carriersReply.getD 0 0 ∧
          t = { s with port := t.port })) ∧
      (∀ b : Byte, Forms s b → s.port.command = .active .readLane → s.port.reply = none → s.port.position = 0 →
        ∃ t, exec (.parameterByte b) s = .next t ∧ t.port.outgoing = out ∧ t = { s with port := t.port } ∧
          (∀ l : Lane, b.toNat = l.number → t.port.reply = some (s.laneReply l) ∧ t.port.result = .ok ∧
            t.port.nextOut = (s.laneReply l).getD 0 0) ∧
          ((∀ l : Lane, b.toNat ≠ l.number) → t.port.reply = none ∧ t.port.result = .refusedRange ∧
            t.port.detail = 0 ∧ t.port.command = .ignoring)) ∧
      (∀ b : Byte, Forms s b → s.port.command = .active .readSlot → s.port.reply = none → s.port.position = 0 →
        ∃ t, exec (.parameterByte b) s = .next t ∧ t.port.outgoing = out ∧ t = { s with port := t.port } ∧
          (∀ i : Slot, b.toNat = i.val → t.port.reply = some (s.slotReply i) ∧ t.port.result = .ok ∧
            t.port.nextOut = (s.slotReply i).getD 0 0) ∧
          (8 ≤ b.toNat → t.port.reply = none ∧ t.port.result = .refusedRange ∧ t.port.detail = 0 ∧
            t.port.command = .ignoring)))
end

