-- ==== Sys2Proof/Laws/Arithmetic.lean ====
section
/-! SUPPORT. What the arithmetic of the SB4 computes: rounding, ceilings and clamps (section 0.5), the window (R20, R21), the
doubt counter (R44). -/

namespace Sys2Proof.Machine

open Sys2Proof.Config

/-- `roundDiv` rounds to the nearest whole number, an exact half away from zero. -/
theorem roundDiv_rounds (a : Int) (b : Nat) (hb : 0 < b) : RoundsTo a b (roundDiv a b) := by
  have hq := Nat.div_add_mod (2 * a.natAbs + b) (2 * b)
  have hm := Nat.mod_lt (2 * a.natAbs + b) (show 0 < 2 * b by omega)
  generalize hQ : (2 * a.natAbs + b) / (2 * b) = q at hq
  generalize (2 * a.natAbs + b) % (2 * b) = m at hq hm
  have hp : 2 * b * q = 2 * (q * b) := by rw [Nat.mul_assoc, Nat.mul_comm b q]
  rw [hp] at hq
  have hv : roundDiv a b = a.sign * (q : Int) := by rw [roundDiv, hQ]
  rcases Int.lt_trichotomy a 0 with h | h | h
  · have hs : roundDiv a b * (b : Int) = -((q * b : Nat) : Int) := by
      rw [hv, Int.sign_eq_neg_one_of_neg h, Int.neg_mul, Int.one_mul, Int.neg_mul, Int.natCast_mul]
    refine ⟨?_, ?_⟩ <;> rw [hs] <;> omega
  · subst h
    have h0 : roundDiv 0 b = 0 := by simp [roundDiv]
    rw [h0]
    exact ⟨by simp, by simp⟩
  · have hs : roundDiv a b * (b : Int) = ((q * b : Nat) : Int) := by
      rw [hv, Int.sign_eq_one_of_pos h]; simp
    refine ⟨?_, ?_⟩ <;> rw [hs] <;> omega

/-- A quotient rounds to one number only. -/
theorem roundsTo_unique {a : Int} {b : Nat} {p q : Int} (hb : 0 < b) (hp : RoundsTo a b p) (hq : RoundsTo a b q) :
    p = q := by
  obtain ⟨hp1, hp2⟩ := hp
  obtain ⟨hq1, hq2⟩ := hq
  refine Classical.byContradiction fun hne => ?_
  have key : ∀ x y : Int, x < y → 2 * (a - x * (b : Int)).natAbs ≤ b → 2 * (a - y * (b : Int)).natAbs ≤ b →
      y = x + 1 ∧ 2 * (a - x * (b : Int)).natAbs = b ∧ 2 * (a - y * (b : Int)).natAbs = b ∧
        2 * a = 2 * (x * (b : Int)) + b := by
    intro x y hxy h1 h2
    have hmul : (x + 1) * (b : Int) ≤ y * (b : Int) := Int.mul_le_mul_of_nonneg_right hxy (by omega)
    rw [Int.add_mul, Int.one_mul] at hmul
    have hy : y * (b : Int) = x * (b : Int) + b := by omega
    refine ⟨?_, by omega, by omega, by omega⟩
    have : (y - (x + 1)) * (b : Int) = 0 := by rw [Int.sub_mul, Int.add_mul, Int.one_mul]; omega
    rcases Int.mul_eq_zero.mp this with h | h <;> omega
  have fin : ∀ x y : Int, x < y → RoundsTo a b x → RoundsTo a b y → False := by
    intro x y hxy hx hy
    obtain ⟨h1, h2, h3, h4⟩ := key x y hxy hx.1 hy.1
    have hx2 := hx.2 h2
    have hy2 := hy.2 h3
    rw [h1, Int.add_mul, Int.one_mul] at hy2
    rcases (by omega : x < 0 ∨ 0 ≤ x) with hx0 | hx0
    · have : x * (b : Int) ≤ -1 * (b : Int) := Int.mul_le_mul_of_nonneg_right (by omega) (by omega)
      omega
    · have : 0 ≤ x * (b : Int) := Int.mul_nonneg hx0 (by omega)
      omega
  rcases Int.lt_or_gt_of_ne hne with h | h
  · exact fin p q h ⟨hp1, hp2⟩ ⟨hq1, hq2⟩
  · exact fin q p h ⟨hq1, hq2⟩ ⟨hp1, hp2⟩

/-- `ceilDiv` is the least number of that many parts. -/
theorem ceilDiv_le_iff (a b k : Nat) (hb : 0 < b) : a ≤ b * k ↔ ceilDiv a b ≤ k := by
  unfold ceilDiv
  constructor
  · intro h
    rw [← Nat.lt_succ_iff, Nat.div_lt_iff_lt_mul hb, Nat.succ_mul, Nat.mul_comm k b]
    omega
  · intro h
    rw [← Nat.lt_succ_iff, Nat.div_lt_iff_lt_mul hb, Nat.succ_mul, Nat.mul_comm k b] at h
    omega

theorem clampInt_eq {lo hi : Int} (n : Int) (h : lo ≤ hi) : clampInt lo hi n = max lo (min hi n) := by
  unfold clampInt
  split
  · omega
  · split <;> omega

theorem clampNat_eq {lo hi : Nat} (n : Nat) (h : lo ≤ hi) : clampNat lo hi n = max lo (min hi n) := by
  unfold clampNat
  split
  · omega
  · split <;> omega

theorem clampInt_le {lo hi n : Int} (h : lo ≤ hi) : lo ≤ clampInt lo hi n ∧ clampInt lo hi n ≤ hi := by
  rw [clampInt_eq n h]; omega

theorem clampNat_le {lo hi n : Nat} (h : lo ≤ hi) : lo ≤ clampNat lo hi n ∧ clampNat lo hi n ≤ hi := by
  rw [clampNat_eq n h]; omega

/-- A sample joins the window as its newest entry, the newest eight staying (R20). -/
theorem pushSample_eq_joined (w : List Int) (g : Int) : pushSample w g = joined w g := by
  unfold pushSample joined
  split
  · rw [List.drop_append_of_le_length (by omega)]
    have : w.length + 1 - 8 = w.length - 7 := by omega
    rw [this]
  · have : w.length + 1 - 8 = 0 := by omega
    rw [this]; rfl

theorem joined_length_le (w : List Int) (g : Int) (_h : w.length ≤ 8) : (joined w g).length ≤ 8 := by
  simp [joined]; omega

theorem foldl_max_ge (xs : List Int) : ∀ x : Int, x ≤ xs.foldl max x ∧ ∀ y ∈ xs, y ≤ xs.foldl max x := by
  induction xs with
  | nil => simp
  | cons z zs ih =>
    intro x
    obtain ⟨h1, h2⟩ := ih (max x z)
    refine ⟨by simp only [List.foldl_cons]; omega, ?_⟩
    intro y hy
    rcases List.mem_cons.mp hy with rfl | hy
    · simp only [List.foldl_cons]; omega
    · exact h2 y hy

theorem foldl_max_mem (xs : List Int) : ∀ x : Int, xs.foldl max x = x ∨ xs.foldl max x ∈ xs := by
  induction xs with
  | nil => simp
  | cons z zs ih =>
    intro x
    rcases ih (max x z) with h | h
    · rw [List.foldl_cons, h]
      rcases Int.le_total x z with hz | hz
      · right; rw [Int.max_eq_right hz]; simp
      · left; exact Int.max_eq_left hz
    · right; rw [List.foldl_cons]; exact List.mem_cons_of_mem _ h

end Sys2Proof.Machine
end

