-- ==== Sys2Proof/Laws/State.lean ====
section
/-! SUPPORT. What each named update of the state leaves as it was: one lemma per field per update. -/

namespace Sys2Proof.Machine

@[simp] theorem State.setLane_frontEnd (s : State) (l : Lane) (u : LaneUnit) : (s.setLane l u).frontEnd = s.frontEnd := rfl
@[simp] theorem State.setLane_matcher (s : State) (l : Lane) (u : LaneUnit) : (s.setLane l u).matcher = s.matcher := rfl
@[simp] theorem State.setLane_slots (s : State) (l : Lane) (u : LaneUnit) : (s.setLane l u).slots = s.slots := rfl
@[simp] theorem State.setLane_carriers (s : State) (l : Lane) (u : LaneUnit) : (s.setLane l u).carriers = s.carriers := rfl
@[simp] theorem State.setLane_settlingIn (s : State) (l : Lane) (u : LaneUnit) : (s.setLane l u).settlingIn = s.settlingIn := rfl
@[simp] theorem State.setLane_queue (s : State) (l : Lane) (u : LaneUnit) : (s.setLane l u).queue = s.queue := rfl
@[simp] theorem State.setLane_link (s : State) (l : Lane) (u : LaneUnit) : (s.setLane l u).link = s.link := rfl
@[simp] theorem State.setLane_port (s : State) (l : Lane) (u : LaneUnit) : (s.setLane l u).port = s.port := rfl
@[simp] theorem State.setLane_startUp (s : State) (l : Lane) (u : LaneUnit) : (s.setLane l u).startUp = s.startUp := rfl
@[simp] theorem State.setLane_working (s : State) (l : Lane) (u : LaneUnit) : (s.setLane l u).working = s.working := rfl
@[simp] theorem State.setLane_running (s : State) (l : Lane) (u : LaneUnit) : (s.setLane l u).running = s.running := rfl
@[simp] theorem State.setLane_pins (s : State) (l : Lane) (u : LaneUnit) : (s.setLane l u).pins = s.pins := rfl
@[simp] theorem State.setLane_now (s : State) (l : Lane) (u : LaneUnit) : (s.setLane l u).now = s.now := rfl
@[simp] theorem State.setLane_pending (s : State) (l : Lane) (u : LaneUnit) : (s.setLane l u).pending = s.pending := rfl

@[simp] theorem State.setSettler_frontEnd (s : State) (l : Lane) (t : Settler) : (s.setSettler l t).frontEnd = s.frontEnd := rfl
@[simp] theorem State.setSettler_matcher (s : State) (l : Lane) (t : Settler) : (s.setSettler l t).matcher = s.matcher := rfl
@[simp] theorem State.setSettler_slots (s : State) (l : Lane) (t : Settler) : (s.setSettler l t).slots = s.slots := rfl
@[simp] theorem State.setSettler_carriers (s : State) (l : Lane) (t : Settler) : (s.setSettler l t).carriers = s.carriers := rfl
@[simp] theorem State.setSettler_settlingIn (s : State) (l : Lane) (t : Settler) : (s.setSettler l t).settlingIn = s.settlingIn := rfl
@[simp] theorem State.setSettler_queue (s : State) (l : Lane) (t : Settler) : (s.setSettler l t).queue = s.queue := rfl
@[simp] theorem State.setSettler_link (s : State) (l : Lane) (t : Settler) : (s.setSettler l t).link = s.link := rfl
@[simp] theorem State.setSettler_port (s : State) (l : Lane) (t : Settler) : (s.setSettler l t).port = s.port := rfl
@[simp] theorem State.setSettler_startUp (s : State) (l : Lane) (t : Settler) : (s.setSettler l t).startUp = s.startUp := rfl
@[simp] theorem State.setSettler_working (s : State) (l : Lane) (t : Settler) : (s.setSettler l t).working = s.working := rfl
@[simp] theorem State.setSettler_running (s : State) (l : Lane) (t : Settler) : (s.setSettler l t).running = s.running := rfl
@[simp] theorem State.setSettler_pins (s : State) (l : Lane) (t : Settler) : (s.setSettler l t).pins = s.pins := rfl
@[simp] theorem State.setSettler_now (s : State) (l : Lane) (t : Settler) : (s.setSettler l t).now = s.now := rfl
@[simp] theorem State.setSettler_pending (s : State) (l : Lane) (t : Settler) : (s.setSettler l t).pending = s.pending := rfl

@[simp] theorem State.setCounting_frontEnd (s : State) (l : Lane) (c : CountUnit) : (s.setCounting l c).frontEnd = s.frontEnd := rfl
@[simp] theorem State.setCounting_matcher (s : State) (l : Lane) (c : CountUnit) : (s.setCounting l c).matcher = s.matcher := rfl
@[simp] theorem State.setCounting_slots (s : State) (l : Lane) (c : CountUnit) : (s.setCounting l c).slots = s.slots := rfl
@[simp] theorem State.setCounting_carriers (s : State) (l : Lane) (c : CountUnit) : (s.setCounting l c).carriers = s.carriers := rfl
@[simp] theorem State.setCounting_settlingIn (s : State) (l : Lane) (c : CountUnit) : (s.setCounting l c).settlingIn = s.settlingIn := rfl
@[simp] theorem State.setCounting_queue (s : State) (l : Lane) (c : CountUnit) : (s.setCounting l c).queue = s.queue := rfl
@[simp] theorem State.setCounting_link (s : State) (l : Lane) (c : CountUnit) : (s.setCounting l c).link = s.link := rfl
@[simp] theorem State.setCounting_port (s : State) (l : Lane) (c : CountUnit) : (s.setCounting l c).port = s.port := rfl
@[simp] theorem State.setCounting_startUp (s : State) (l : Lane) (c : CountUnit) : (s.setCounting l c).startUp = s.startUp := rfl
@[simp] theorem State.setCounting_working (s : State) (l : Lane) (c : CountUnit) : (s.setCounting l c).working = s.working := rfl
@[simp] theorem State.setCounting_running (s : State) (l : Lane) (c : CountUnit) : (s.setCounting l c).running = s.running := rfl
@[simp] theorem State.setCounting_pins (s : State) (l : Lane) (c : CountUnit) : (s.setCounting l c).pins = s.pins := rfl
@[simp] theorem State.setCounting_now (s : State) (l : Lane) (c : CountUnit) : (s.setCounting l c).now = s.now := rfl
@[simp] theorem State.setCounting_pending (s : State) (l : Lane) (c : CountUnit) : (s.setCounting l c).pending = s.pending := rfl

@[simp] theorem State.setNotice_frontEnd (s : State) (l : Lane) (n : LaneNotice) : (s.setNotice l n).frontEnd = s.frontEnd := rfl
@[simp] theorem State.setNotice_matcher (s : State) (l : Lane) (n : LaneNotice) : (s.setNotice l n).matcher = s.matcher := rfl
@[simp] theorem State.setNotice_slots (s : State) (l : Lane) (n : LaneNotice) : (s.setNotice l n).slots = s.slots := rfl
@[simp] theorem State.setNotice_carriers (s : State) (l : Lane) (n : LaneNotice) : (s.setNotice l n).carriers = s.carriers := rfl
@[simp] theorem State.setNotice_settlingIn (s : State) (l : Lane) (n : LaneNotice) : (s.setNotice l n).settlingIn = s.settlingIn := rfl
@[simp] theorem State.setNotice_queue (s : State) (l : Lane) (n : LaneNotice) : (s.setNotice l n).queue = s.queue := rfl
@[simp] theorem State.setNotice_link (s : State) (l : Lane) (n : LaneNotice) : (s.setNotice l n).link = s.link := rfl
@[simp] theorem State.setNotice_port (s : State) (l : Lane) (n : LaneNotice) : (s.setNotice l n).port = s.port := rfl
@[simp] theorem State.setNotice_startUp (s : State) (l : Lane) (n : LaneNotice) : (s.setNotice l n).startUp = s.startUp := rfl
@[simp] theorem State.setNotice_working (s : State) (l : Lane) (n : LaneNotice) : (s.setNotice l n).working = s.working := rfl
@[simp] theorem State.setNotice_running (s : State) (l : Lane) (n : LaneNotice) : (s.setNotice l n).running = s.running := rfl
@[simp] theorem State.setNotice_pins (s : State) (l : Lane) (n : LaneNotice) : (s.setNotice l n).pins = s.pins := rfl
@[simp] theorem State.setNotice_now (s : State) (l : Lane) (n : LaneNotice) : (s.setNotice l n).now = s.now := rfl
@[simp] theorem State.setNotice_pending (s : State) (l : Lane) (n : LaneNotice) : (s.setNotice l n).pending = s.pending := rfl

@[simp] theorem State.setTallies_frontEnd (s : State) (l : Lane) (f : Tallies → Tallies) : (s.setTallies l f).frontEnd = s.frontEnd := rfl
@[simp] theorem State.setTallies_matcher (s : State) (l : Lane) (f : Tallies → Tallies) : (s.setTallies l f).matcher = s.matcher := rfl
@[simp] theorem State.setTallies_slots (s : State) (l : Lane) (f : Tallies → Tallies) : (s.setTallies l f).slots = s.slots := rfl
@[simp] theorem State.setTallies_carriers (s : State) (l : Lane) (f : Tallies → Tallies) : (s.setTallies l f).carriers = s.carriers := rfl
@[simp] theorem State.setTallies_settlingIn (s : State) (l : Lane) (f : Tallies → Tallies) : (s.setTallies l f).settlingIn = s.settlingIn := rfl
@[simp] theorem State.setTallies_queue (s : State) (l : Lane) (f : Tallies → Tallies) : (s.setTallies l f).queue = s.queue := rfl
@[simp] theorem State.setTallies_link (s : State) (l : Lane) (f : Tallies → Tallies) : (s.setTallies l f).link = s.link := rfl
@[simp] theorem State.setTallies_port (s : State) (l : Lane) (f : Tallies → Tallies) : (s.setTallies l f).port = s.port := rfl
@[simp] theorem State.setTallies_startUp (s : State) (l : Lane) (f : Tallies → Tallies) : (s.setTallies l f).startUp = s.startUp := rfl
@[simp] theorem State.setTallies_working (s : State) (l : Lane) (f : Tallies → Tallies) : (s.setTallies l f).working = s.working := rfl
@[simp] theorem State.setTallies_running (s : State) (l : Lane) (f : Tallies → Tallies) : (s.setTallies l f).running = s.running := rfl
@[simp] theorem State.setTallies_pins (s : State) (l : Lane) (f : Tallies → Tallies) : (s.setTallies l f).pins = s.pins := rfl
@[simp] theorem State.setTallies_now (s : State) (l : Lane) (f : Tallies → Tallies) : (s.setTallies l f).now = s.now := rfl
@[simp] theorem State.setTallies_pending (s : State) (l : Lane) (f : Tallies → Tallies) : (s.setTallies l f).pending = s.pending := rfl

@[simp] theorem State.setReport_frontEnd (s : State) (l : Lane) (r : SettleReport) : (s.setReport l r).frontEnd = s.frontEnd := rfl
@[simp] theorem State.setReport_matcher (s : State) (l : Lane) (r : SettleReport) : (s.setReport l r).matcher = s.matcher := rfl
@[simp] theorem State.setReport_slots (s : State) (l : Lane) (r : SettleReport) : (s.setReport l r).slots = s.slots := rfl
@[simp] theorem State.setReport_carriers (s : State) (l : Lane) (r : SettleReport) : (s.setReport l r).carriers = s.carriers := rfl
@[simp] theorem State.setReport_settlingIn (s : State) (l : Lane) (r : SettleReport) : (s.setReport l r).settlingIn = s.settlingIn := rfl
@[simp] theorem State.setReport_queue (s : State) (l : Lane) (r : SettleReport) : (s.setReport l r).queue = s.queue := rfl
@[simp] theorem State.setReport_link (s : State) (l : Lane) (r : SettleReport) : (s.setReport l r).link = s.link := rfl
@[simp] theorem State.setReport_port (s : State) (l : Lane) (r : SettleReport) : (s.setReport l r).port = s.port := rfl
@[simp] theorem State.setReport_startUp (s : State) (l : Lane) (r : SettleReport) : (s.setReport l r).startUp = s.startUp := rfl
@[simp] theorem State.setReport_working (s : State) (l : Lane) (r : SettleReport) : (s.setReport l r).working = s.working := rfl
@[simp] theorem State.setReport_running (s : State) (l : Lane) (r : SettleReport) : (s.setReport l r).running = s.running := rfl
@[simp] theorem State.setReport_pins (s : State) (l : Lane) (r : SettleReport) : (s.setReport l r).pins = s.pins := rfl
@[simp] theorem State.setReport_now (s : State) (l : Lane) (r : SettleReport) : (s.setReport l r).now = s.now := rfl
@[simp] theorem State.setReport_pending (s : State) (l : Lane) (r : SettleReport) : (s.setReport l r).pending = s.pending := rfl

@[simp] theorem State.mapLanes_frontEnd (s : State) (f : Lane → LaneUnit → LaneUnit) : (s.mapLanes f).frontEnd = s.frontEnd := rfl
@[simp] theorem State.mapLanes_matcher (s : State) (f : Lane → LaneUnit → LaneUnit) : (s.mapLanes f).matcher = s.matcher := rfl
@[simp] theorem State.mapLanes_slots (s : State) (f : Lane → LaneUnit → LaneUnit) : (s.mapLanes f).slots = s.slots := rfl
@[simp] theorem State.mapLanes_carriers (s : State) (f : Lane → LaneUnit → LaneUnit) : (s.mapLanes f).carriers = s.carriers := rfl
@[simp] theorem State.mapLanes_settlingIn (s : State) (f : Lane → LaneUnit → LaneUnit) : (s.mapLanes f).settlingIn = s.settlingIn := rfl
@[simp] theorem State.mapLanes_queue (s : State) (f : Lane → LaneUnit → LaneUnit) : (s.mapLanes f).queue = s.queue := rfl
@[simp] theorem State.mapLanes_link (s : State) (f : Lane → LaneUnit → LaneUnit) : (s.mapLanes f).link = s.link := rfl
@[simp] theorem State.mapLanes_port (s : State) (f : Lane → LaneUnit → LaneUnit) : (s.mapLanes f).port = s.port := rfl
@[simp] theorem State.mapLanes_startUp (s : State) (f : Lane → LaneUnit → LaneUnit) : (s.mapLanes f).startUp = s.startUp := rfl
@[simp] theorem State.mapLanes_working (s : State) (f : Lane → LaneUnit → LaneUnit) : (s.mapLanes f).working = s.working := rfl
@[simp] theorem State.mapLanes_running (s : State) (f : Lane → LaneUnit → LaneUnit) : (s.mapLanes f).running = s.running := rfl
@[simp] theorem State.mapLanes_pins (s : State) (f : Lane → LaneUnit → LaneUnit) : (s.mapLanes f).pins = s.pins := rfl
@[simp] theorem State.mapLanes_now (s : State) (f : Lane → LaneUnit → LaneUnit) : (s.mapLanes f).now = s.now := rfl
@[simp] theorem State.mapLanes_pending (s : State) (f : Lane → LaneUnit → LaneUnit) : (s.mapLanes f).pending = s.pending := rfl

@[simp] theorem State.rederiveIndicators_frontEnd (s : State) (ls : List Lane) : (s.rederiveIndicators ls).frontEnd = s.frontEnd := rfl
@[simp] theorem State.rederiveIndicators_matcher (s : State) (ls : List Lane) : (s.rederiveIndicators ls).matcher = s.matcher := rfl
@[simp] theorem State.rederiveIndicators_slots (s : State) (ls : List Lane) : (s.rederiveIndicators ls).slots = s.slots := rfl
@[simp] theorem State.rederiveIndicators_carriers (s : State) (ls : List Lane) : (s.rederiveIndicators ls).carriers = s.carriers := rfl
@[simp] theorem State.rederiveIndicators_settlingIn (s : State) (ls : List Lane) : (s.rederiveIndicators ls).settlingIn = s.settlingIn := rfl
@[simp] theorem State.rederiveIndicators_queue (s : State) (ls : List Lane) : (s.rederiveIndicators ls).queue = s.queue := rfl
@[simp] theorem State.rederiveIndicators_link (s : State) (ls : List Lane) : (s.rederiveIndicators ls).link = s.link := rfl
@[simp] theorem State.rederiveIndicators_port (s : State) (ls : List Lane) : (s.rederiveIndicators ls).port = s.port := rfl
@[simp] theorem State.rederiveIndicators_startUp (s : State) (ls : List Lane) : (s.rederiveIndicators ls).startUp = s.startUp := rfl
@[simp] theorem State.rederiveIndicators_working (s : State) (ls : List Lane) : (s.rederiveIndicators ls).working = s.working := rfl
@[simp] theorem State.rederiveIndicators_running (s : State) (ls : List Lane) : (s.rederiveIndicators ls).running = s.running := rfl
@[simp] theorem State.rederiveIndicators_pins (s : State) (ls : List Lane) : (s.rederiveIndicators ls).pins = s.pins := rfl
@[simp] theorem State.rederiveIndicators_now (s : State) (ls : List Lane) : (s.rederiveIndicators ls).now = s.now := rfl
@[simp] theorem State.rederiveIndicators_pending (s : State) (ls : List Lane) : (s.rederiveIndicators ls).pending = s.pending := rfl

@[simp] theorem State.setSlot_frontEnd (s : State) (i : Slot) (u : SlotUnit) : (s.setSlot i u).frontEnd = s.frontEnd := rfl
@[simp] theorem State.setSlot_lanes (s : State) (i : Slot) (u : SlotUnit) : (s.setSlot i u).lanes = s.lanes := rfl
@[simp] theorem State.setSlot_matcher (s : State) (i : Slot) (u : SlotUnit) : (s.setSlot i u).matcher = s.matcher := rfl
@[simp] theorem State.setSlot_carriers (s : State) (i : Slot) (u : SlotUnit) : (s.setSlot i u).carriers = s.carriers := rfl
@[simp] theorem State.setSlot_settlingIn (s : State) (i : Slot) (u : SlotUnit) : (s.setSlot i u).settlingIn = s.settlingIn := rfl
@[simp] theorem State.setSlot_queue (s : State) (i : Slot) (u : SlotUnit) : (s.setSlot i u).queue = s.queue := rfl
@[simp] theorem State.setSlot_link (s : State) (i : Slot) (u : SlotUnit) : (s.setSlot i u).link = s.link := rfl
@[simp] theorem State.setSlot_port (s : State) (i : Slot) (u : SlotUnit) : (s.setSlot i u).port = s.port := rfl
@[simp] theorem State.setSlot_startUp (s : State) (i : Slot) (u : SlotUnit) : (s.setSlot i u).startUp = s.startUp := rfl
@[simp] theorem State.setSlot_working (s : State) (i : Slot) (u : SlotUnit) : (s.setSlot i u).working = s.working := rfl
@[simp] theorem State.setSlot_running (s : State) (i : Slot) (u : SlotUnit) : (s.setSlot i u).running = s.running := rfl
@[simp] theorem State.setSlot_pins (s : State) (i : Slot) (u : SlotUnit) : (s.setSlot i u).pins = s.pins := rfl
@[simp] theorem State.setSlot_now (s : State) (i : Slot) (u : SlotUnit) : (s.setSlot i u).now = s.now := rfl
@[simp] theorem State.setSlot_pending (s : State) (i : Slot) (u : SlotUnit) : (s.setSlot i u).pending = s.pending := rfl

@[simp] theorem State.place_frontEnd (s : State) (k : RequestKey) : (s.place k).frontEnd = s.frontEnd := rfl
@[simp] theorem State.place_lanes (s : State) (k : RequestKey) : (s.place k).lanes = s.lanes := rfl
@[simp] theorem State.place_matcher (s : State) (k : RequestKey) : (s.place k).matcher = s.matcher := rfl
@[simp] theorem State.place_slots (s : State) (k : RequestKey) : (s.place k).slots = s.slots := rfl
@[simp] theorem State.place_carriers (s : State) (k : RequestKey) : (s.place k).carriers = s.carriers := rfl
@[simp] theorem State.place_settlingIn (s : State) (k : RequestKey) : (s.place k).settlingIn = s.settlingIn := rfl
@[simp] theorem State.place_link (s : State) (k : RequestKey) : (s.place k).link = s.link := rfl
@[simp] theorem State.place_port (s : State) (k : RequestKey) : (s.place k).port = s.port := rfl
@[simp] theorem State.place_startUp (s : State) (k : RequestKey) : (s.place k).startUp = s.startUp := rfl
@[simp] theorem State.place_working (s : State) (k : RequestKey) : (s.place k).working = s.working := rfl
@[simp] theorem State.place_running (s : State) (k : RequestKey) : (s.place k).running = s.running := rfl
@[simp] theorem State.place_pins (s : State) (k : RequestKey) : (s.place k).pins = s.pins := rfl
@[simp] theorem State.place_now (s : State) (k : RequestKey) : (s.place k).now = s.now := rfl
@[simp] theorem State.place_pending (s : State) (k : RequestKey) : (s.place k).pending = s.pending := rfl

@[simp] theorem State.placeClaim_frontEnd (s : State) (station : Nat) (tag : Byte) (type : ClaimType) : (s.placeClaim station tag type).frontEnd = s.frontEnd := rfl
@[simp] theorem State.placeClaim_lanes (s : State) (station : Nat) (tag : Byte) (type : ClaimType) : (s.placeClaim station tag type).lanes = s.lanes := rfl
@[simp] theorem State.placeClaim_matcher (s : State) (station : Nat) (tag : Byte) (type : ClaimType) : (s.placeClaim station tag type).matcher = s.matcher := rfl
@[simp] theorem State.placeClaim_slots (s : State) (station : Nat) (tag : Byte) (type : ClaimType) : (s.placeClaim station tag type).slots = s.slots := rfl
@[simp] theorem State.placeClaim_carriers (s : State) (station : Nat) (tag : Byte) (type : ClaimType) : (s.placeClaim station tag type).carriers = s.carriers := rfl
@[simp] theorem State.placeClaim_settlingIn (s : State) (station : Nat) (tag : Byte) (type : ClaimType) : (s.placeClaim station tag type).settlingIn = s.settlingIn := rfl
@[simp] theorem State.placeClaim_link (s : State) (station : Nat) (tag : Byte) (type : ClaimType) : (s.placeClaim station tag type).link = s.link := rfl
@[simp] theorem State.placeClaim_port (s : State) (station : Nat) (tag : Byte) (type : ClaimType) : (s.placeClaim station tag type).port = s.port := rfl
@[simp] theorem State.placeClaim_startUp (s : State) (station : Nat) (tag : Byte) (type : ClaimType) : (s.placeClaim station tag type).startUp = s.startUp := rfl
@[simp] theorem State.placeClaim_working (s : State) (station : Nat) (tag : Byte) (type : ClaimType) : (s.placeClaim station tag type).working = s.working := rfl
@[simp] theorem State.placeClaim_running (s : State) (station : Nat) (tag : Byte) (type : ClaimType) : (s.placeClaim station tag type).running = s.running := rfl
@[simp] theorem State.placeClaim_pins (s : State) (station : Nat) (tag : Byte) (type : ClaimType) : (s.placeClaim station tag type).pins = s.pins := rfl
@[simp] theorem State.placeClaim_now (s : State) (station : Nat) (tag : Byte) (type : ClaimType) : (s.placeClaim station tag type).now = s.now := rfl
@[simp] theorem State.placeClaim_pending (s : State) (station : Nat) (tag : Byte) (type : ClaimType) : (s.placeClaim station tag type).pending = s.pending := rfl

@[simp] theorem State.withdraw_frontEnd (s : State) (k : RequestKey) : (s.withdraw k).frontEnd = s.frontEnd := rfl
@[simp] theorem State.withdraw_lanes (s : State) (k : RequestKey) : (s.withdraw k).lanes = s.lanes := rfl
@[simp] theorem State.withdraw_matcher (s : State) (k : RequestKey) : (s.withdraw k).matcher = s.matcher := rfl
@[simp] theorem State.withdraw_slots (s : State) (k : RequestKey) : (s.withdraw k).slots = s.slots := rfl
@[simp] theorem State.withdraw_carriers (s : State) (k : RequestKey) : (s.withdraw k).carriers = s.carriers := rfl
@[simp] theorem State.withdraw_settlingIn (s : State) (k : RequestKey) : (s.withdraw k).settlingIn = s.settlingIn := rfl
@[simp] theorem State.withdraw_port (s : State) (k : RequestKey) : (s.withdraw k).port = s.port := rfl
@[simp] theorem State.withdraw_startUp (s : State) (k : RequestKey) : (s.withdraw k).startUp = s.startUp := rfl
@[simp] theorem State.withdraw_working (s : State) (k : RequestKey) : (s.withdraw k).working = s.working := rfl
@[simp] theorem State.withdraw_running (s : State) (k : RequestKey) : (s.withdraw k).running = s.running := rfl
@[simp] theorem State.withdraw_pins (s : State) (k : RequestKey) : (s.withdraw k).pins = s.pins := rfl
@[simp] theorem State.withdraw_now (s : State) (k : RequestKey) : (s.withdraw k).now = s.now := rfl
@[simp] theorem State.withdraw_pending (s : State) (k : RequestKey) : (s.withdraw k).pending = s.pending := rfl

@[simp] theorem State.setResult_frontEnd (s : State) (c : ResultCode) (d : Nat) : (s.setResult c d).frontEnd = s.frontEnd := rfl
@[simp] theorem State.setResult_lanes (s : State) (c : ResultCode) (d : Nat) : (s.setResult c d).lanes = s.lanes := rfl
@[simp] theorem State.setResult_matcher (s : State) (c : ResultCode) (d : Nat) : (s.setResult c d).matcher = s.matcher := rfl
@[simp] theorem State.setResult_slots (s : State) (c : ResultCode) (d : Nat) : (s.setResult c d).slots = s.slots := rfl
@[simp] theorem State.setResult_carriers (s : State) (c : ResultCode) (d : Nat) : (s.setResult c d).carriers = s.carriers := rfl
@[simp] theorem State.setResult_settlingIn (s : State) (c : ResultCode) (d : Nat) : (s.setResult c d).settlingIn = s.settlingIn := rfl
@[simp] theorem State.setResult_queue (s : State) (c : ResultCode) (d : Nat) : (s.setResult c d).queue = s.queue := rfl
@[simp] theorem State.setResult_link (s : State) (c : ResultCode) (d : Nat) : (s.setResult c d).link = s.link := rfl
@[simp] theorem State.setResult_startUp (s : State) (c : ResultCode) (d : Nat) : (s.setResult c d).startUp = s.startUp := rfl
@[simp] theorem State.setResult_working (s : State) (c : ResultCode) (d : Nat) : (s.setResult c d).working = s.working := rfl
@[simp] theorem State.setResult_running (s : State) (c : ResultCode) (d : Nat) : (s.setResult c d).running = s.running := rfl
@[simp] theorem State.setResult_pins (s : State) (c : ResultCode) (d : Nat) : (s.setResult c d).pins = s.pins := rfl
@[simp] theorem State.setResult_now (s : State) (c : ResultCode) (d : Nat) : (s.setResult c d).now = s.now := rfl
@[simp] theorem State.setResult_pending (s : State) (c : ResultCode) (d : Nat) : (s.setResult c d).pending = s.pending := rfl

@[simp] theorem State.setPendingOut_frontEnd (s : State) (es : List PendingOut) : (s.setPendingOut es).frontEnd = s.frontEnd := rfl
@[simp] theorem State.setPendingOut_lanes (s : State) (es : List PendingOut) : (s.setPendingOut es).lanes = s.lanes := rfl
@[simp] theorem State.setPendingOut_slots (s : State) (es : List PendingOut) : (s.setPendingOut es).slots = s.slots := rfl
@[simp] theorem State.setPendingOut_carriers (s : State) (es : List PendingOut) : (s.setPendingOut es).carriers = s.carriers := rfl
@[simp] theorem State.setPendingOut_settlingIn (s : State) (es : List PendingOut) : (s.setPendingOut es).settlingIn = s.settlingIn := rfl
@[simp] theorem State.setPendingOut_queue (s : State) (es : List PendingOut) : (s.setPendingOut es).queue = s.queue := rfl
@[simp] theorem State.setPendingOut_link (s : State) (es : List PendingOut) : (s.setPendingOut es).link = s.link := rfl
@[simp] theorem State.setPendingOut_port (s : State) (es : List PendingOut) : (s.setPendingOut es).port = s.port := rfl
@[simp] theorem State.setPendingOut_startUp (s : State) (es : List PendingOut) : (s.setPendingOut es).startUp = s.startUp := rfl
@[simp] theorem State.setPendingOut_working (s : State) (es : List PendingOut) : (s.setPendingOut es).working = s.working := rfl
@[simp] theorem State.setPendingOut_running (s : State) (es : List PendingOut) : (s.setPendingOut es).running = s.running := rfl
@[simp] theorem State.setPendingOut_pins (s : State) (es : List PendingOut) : (s.setPendingOut es).pins = s.pins := rfl
@[simp] theorem State.setPendingOut_now (s : State) (es : List PendingOut) : (s.setPendingOut es).now = s.now := rfl
@[simp] theorem State.setPendingOut_pending (s : State) (es : List PendingOut) : (s.setPendingOut es).pending = s.pending := rfl

@[simp] theorem State.setHeard_frontEnd (s : State) (es : List HeardOffer) : (s.setHeard es).frontEnd = s.frontEnd := rfl
@[simp] theorem State.setHeard_lanes (s : State) (es : List HeardOffer) : (s.setHeard es).lanes = s.lanes := rfl
@[simp] theorem State.setHeard_slots (s : State) (es : List HeardOffer) : (s.setHeard es).slots = s.slots := rfl
@[simp] theorem State.setHeard_carriers (s : State) (es : List HeardOffer) : (s.setHeard es).carriers = s.carriers := rfl
@[simp] theorem State.setHeard_settlingIn (s : State) (es : List HeardOffer) : (s.setHeard es).settlingIn = s.settlingIn := rfl
@[simp] theorem State.setHeard_queue (s : State) (es : List HeardOffer) : (s.setHeard es).queue = s.queue := rfl
@[simp] theorem State.setHeard_link (s : State) (es : List HeardOffer) : (s.setHeard es).link = s.link := rfl
@[simp] theorem State.setHeard_port (s : State) (es : List HeardOffer) : (s.setHeard es).port = s.port := rfl
@[simp] theorem State.setHeard_startUp (s : State) (es : List HeardOffer) : (s.setHeard es).startUp = s.startUp := rfl
@[simp] theorem State.setHeard_working (s : State) (es : List HeardOffer) : (s.setHeard es).working = s.working := rfl
@[simp] theorem State.setHeard_running (s : State) (es : List HeardOffer) : (s.setHeard es).running = s.running := rfl
@[simp] theorem State.setHeard_pins (s : State) (es : List HeardOffer) : (s.setHeard es).pins = s.pins := rfl
@[simp] theorem State.setHeard_now (s : State) (es : List HeardOffer) : (s.setHeard es).now = s.now := rfl
@[simp] theorem State.setHeard_pending (s : State) (es : List HeardOffer) : (s.setHeard es).pending = s.pending := rfl

@[simp] theorem State.setCarrier_frontEnd (s : State) (p : Fin 32) (e : Option CarrierEntry) : (s.setCarrier p e).frontEnd = s.frontEnd := rfl
@[simp] theorem State.setCarrier_lanes (s : State) (p : Fin 32) (e : Option CarrierEntry) : (s.setCarrier p e).lanes = s.lanes := rfl
@[simp] theorem State.setCarrier_matcher (s : State) (p : Fin 32) (e : Option CarrierEntry) : (s.setCarrier p e).matcher = s.matcher := rfl
@[simp] theorem State.setCarrier_slots (s : State) (p : Fin 32) (e : Option CarrierEntry) : (s.setCarrier p e).slots = s.slots := rfl
@[simp] theorem State.setCarrier_settlingIn (s : State) (p : Fin 32) (e : Option CarrierEntry) : (s.setCarrier p e).settlingIn = s.settlingIn := rfl
@[simp] theorem State.setCarrier_queue (s : State) (p : Fin 32) (e : Option CarrierEntry) : (s.setCarrier p e).queue = s.queue := rfl
@[simp] theorem State.setCarrier_link (s : State) (p : Fin 32) (e : Option CarrierEntry) : (s.setCarrier p e).link = s.link := rfl
@[simp] theorem State.setCarrier_port (s : State) (p : Fin 32) (e : Option CarrierEntry) : (s.setCarrier p e).port = s.port := rfl
@[simp] theorem State.setCarrier_startUp (s : State) (p : Fin 32) (e : Option CarrierEntry) : (s.setCarrier p e).startUp = s.startUp := rfl
@[simp] theorem State.setCarrier_working (s : State) (p : Fin 32) (e : Option CarrierEntry) : (s.setCarrier p e).working = s.working := rfl
@[simp] theorem State.setCarrier_running (s : State) (p : Fin 32) (e : Option CarrierEntry) : (s.setCarrier p e).running = s.running := rfl
@[simp] theorem State.setCarrier_pins (s : State) (p : Fin 32) (e : Option CarrierEntry) : (s.setCarrier p e).pins = s.pins := rfl
@[simp] theorem State.setCarrier_now (s : State) (p : Fin 32) (e : Option CarrierEntry) : (s.setCarrier p e).now = s.now := rfl
@[simp] theorem State.setCarrier_pending (s : State) (p : Fin 32) (e : Option CarrierEntry) : (s.setCarrier p e).pending = s.pending := rfl

@[simp] theorem State.mapStation_frontEnd (s : State) (station : Nat) (f : CarrierEntry → Option CarrierEntry) : (s.mapStation station f).frontEnd = s.frontEnd := rfl
@[simp] theorem State.mapStation_lanes (s : State) (station : Nat) (f : CarrierEntry → Option CarrierEntry) : (s.mapStation station f).lanes = s.lanes := rfl
@[simp] theorem State.mapStation_matcher (s : State) (station : Nat) (f : CarrierEntry → Option CarrierEntry) : (s.mapStation station f).matcher = s.matcher := rfl
@[simp] theorem State.mapStation_slots (s : State) (station : Nat) (f : CarrierEntry → Option CarrierEntry) : (s.mapStation station f).slots = s.slots := rfl
@[simp] theorem State.mapStation_settlingIn (s : State) (station : Nat) (f : CarrierEntry → Option CarrierEntry) : (s.mapStation station f).settlingIn = s.settlingIn := rfl
@[simp] theorem State.mapStation_queue (s : State) (station : Nat) (f : CarrierEntry → Option CarrierEntry) : (s.mapStation station f).queue = s.queue := rfl
@[simp] theorem State.mapStation_link (s : State) (station : Nat) (f : CarrierEntry → Option CarrierEntry) : (s.mapStation station f).link = s.link := rfl
@[simp] theorem State.mapStation_port (s : State) (station : Nat) (f : CarrierEntry → Option CarrierEntry) : (s.mapStation station f).port = s.port := rfl
@[simp] theorem State.mapStation_startUp (s : State) (station : Nat) (f : CarrierEntry → Option CarrierEntry) : (s.mapStation station f).startUp = s.startUp := rfl
@[simp] theorem State.mapStation_working (s : State) (station : Nat) (f : CarrierEntry → Option CarrierEntry) : (s.mapStation station f).working = s.working := rfl
@[simp] theorem State.mapStation_running (s : State) (station : Nat) (f : CarrierEntry → Option CarrierEntry) : (s.mapStation station f).running = s.running := rfl
@[simp] theorem State.mapStation_pins (s : State) (station : Nat) (f : CarrierEntry → Option CarrierEntry) : (s.mapStation station f).pins = s.pins := rfl
@[simp] theorem State.mapStation_now (s : State) (station : Nat) (f : CarrierEntry → Option CarrierEntry) : (s.mapStation station f).now = s.now := rfl
@[simp] theorem State.mapStation_pending (s : State) (station : Nat) (f : CarrierEntry → Option CarrierEntry) : (s.mapStation station f).pending = s.pending := rfl

@[simp] theorem State.changeNotice_frontEnd (s : State) (l : Lane) (f : LaneNotice → LaneNotice) : (s.changeNotice l f).frontEnd = s.frontEnd := rfl
@[simp] theorem State.changeNotice_matcher (s : State) (l : Lane) (f : LaneNotice → LaneNotice) : (s.changeNotice l f).matcher = s.matcher := rfl
@[simp] theorem State.changeNotice_slots (s : State) (l : Lane) (f : LaneNotice → LaneNotice) : (s.changeNotice l f).slots = s.slots := rfl
@[simp] theorem State.changeNotice_carriers (s : State) (l : Lane) (f : LaneNotice → LaneNotice) : (s.changeNotice l f).carriers = s.carriers := rfl
@[simp] theorem State.changeNotice_settlingIn (s : State) (l : Lane) (f : LaneNotice → LaneNotice) : (s.changeNotice l f).settlingIn = s.settlingIn := rfl
@[simp] theorem State.changeNotice_link (s : State) (l : Lane) (f : LaneNotice → LaneNotice) : (s.changeNotice l f).link = s.link := rfl
@[simp] theorem State.changeNotice_port (s : State) (l : Lane) (f : LaneNotice → LaneNotice) : (s.changeNotice l f).port = s.port := rfl
@[simp] theorem State.changeNotice_startUp (s : State) (l : Lane) (f : LaneNotice → LaneNotice) : (s.changeNotice l f).startUp = s.startUp := rfl
@[simp] theorem State.changeNotice_working (s : State) (l : Lane) (f : LaneNotice → LaneNotice) : (s.changeNotice l f).working = s.working := rfl
@[simp] theorem State.changeNotice_running (s : State) (l : Lane) (f : LaneNotice → LaneNotice) : (s.changeNotice l f).running = s.running := rfl
@[simp] theorem State.changeNotice_pins (s : State) (l : Lane) (f : LaneNotice → LaneNotice) : (s.changeNotice l f).pins = s.pins := rfl
@[simp] theorem State.changeNotice_now (s : State) (l : Lane) (f : LaneNotice → LaneNotice) : (s.changeNotice l f).now = s.now := rfl
@[simp] theorem State.changeNotice_pending (s : State) (l : Lane) (f : LaneNotice → LaneNotice) : (s.changeNotice l f).pending = s.pending := rfl

/-! ## Updates of the link -/

@[simp] theorem Link.released_state (k : Link) : (k.released).state = k.state := rfl
@[simp] theorem Link.released_health (k : Link) : (k.released).health = k.health := rfl
@[simp] theorem Link.released_receiver (k : Link) : (k.released).receiver = k.receiver := rfl
@[simp] theorem Link.released_buffer (k : Link) : (k.released).buffer = k.buffer := rfl
@[simp] theorem Link.released_bits (k : Link) : (k.released).bits = k.bits := rfl
@[simp] theorem Link.released_recessiveCount (k : Link) : (k.released).recessiveCount = k.recessiveCount := rfl
@[simp] theorem Link.released_spacing (k : Link) : (k.released).spacing = k.spacing := rfl

@[simp] theorem Link.seek_state (k : Link) : (k.seek).state = k.state := rfl
@[simp] theorem Link.seek_health (k : Link) : (k.seek).health = k.health := rfl
@[simp] theorem Link.seek_flight (k : Link) : (k.seek).flight = k.flight := rfl
@[simp] theorem Link.seek_recessiveCount (k : Link) : (k.seek).recessiveCount = k.recessiveCount := rfl
@[simp] theorem Link.seek_spacing (k : Link) : (k.seek).spacing = k.spacing := rfl
@[simp] theorem Link.seek_driver (k : Link) : (k.seek).driver = k.driver := rfl

@[simp] theorem Link.awaitIdle_state (k : Link) : (k.awaitIdle).state = k.state := rfl
@[simp] theorem Link.awaitIdle_health (k : Link) : (k.awaitIdle).health = k.health := rfl
@[simp] theorem Link.awaitIdle_flight (k : Link) : (k.awaitIdle).flight = k.flight := rfl
@[simp] theorem Link.awaitIdle_recessiveCount (k : Link) : (k.awaitIdle).recessiveCount = k.recessiveCount := rfl
@[simp] theorem Link.awaitIdle_spacing (k : Link) : (k.awaitIdle).spacing = k.spacing := rfl
@[simp] theorem Link.awaitIdle_driver (k : Link) : (k.awaitIdle).driver = k.driver := rfl

@[simp] theorem Link.readOn_state (k : Link) (chars : List Byte) (char bit : Nat) (read : Bool) : (k.readOn chars char bit read).state = k.state := rfl
@[simp] theorem Link.readOn_health (k : Link) (chars : List Byte) (char bit : Nat) (read : Bool) : (k.readOn chars char bit read).health = k.health := rfl
@[simp] theorem Link.readOn_flight (k : Link) (chars : List Byte) (char bit : Nat) (read : Bool) : (k.readOn chars char bit read).flight = k.flight := rfl
@[simp] theorem Link.readOn_recessiveCount (k : Link) (chars : List Byte) (char bit : Nat) (read : Bool) : (k.readOn chars char bit read).recessiveCount = k.recessiveCount := rfl
@[simp] theorem Link.readOn_spacing (k : Link) (chars : List Byte) (char bit : Nat) (read : Bool) : (k.readOn chars char bit read).spacing = k.spacing := rfl
@[simp] theorem Link.readOn_driver (k : Link) (chars : List Byte) (char bit : Nat) (read : Bool) : (k.readOn chars char bit read).driver = k.driver := rfl

@[simp] theorem Link.startCharacter_state (k : Link) (buffer : List Byte) : (k.startCharacter buffer).state = k.state := rfl
@[simp] theorem Link.startCharacter_health (k : Link) (buffer : List Byte) : (k.startCharacter buffer).health = k.health := rfl
@[simp] theorem Link.startCharacter_flight (k : Link) (buffer : List Byte) : (k.startCharacter buffer).flight = k.flight := rfl
@[simp] theorem Link.startCharacter_recessiveCount (k : Link) (buffer : List Byte) : (k.startCharacter buffer).recessiveCount = k.recessiveCount := rfl
@[simp] theorem Link.startCharacter_spacing (k : Link) (buffer : List Byte) : (k.startCharacter buffer).spacing = k.spacing := rfl
@[simp] theorem Link.startCharacter_driver (k : Link) (buffer : List Byte) : (k.startCharacter buffer).driver = k.driver := rfl

@[simp] theorem Link.completed_state (k : Link) (chars : List Byte) : (k.completed chars).state = k.state := rfl
@[simp] theorem Link.completed_health (k : Link) (chars : List Byte) : (k.completed chars).health = k.health := rfl
@[simp] theorem Link.completed_flight (k : Link) (chars : List Byte) : (k.completed chars).flight = k.flight := rfl
@[simp] theorem Link.completed_driver (k : Link) (chars : List Byte) : (k.completed chars).driver = k.driver := rfl

end Sys2Proof.Machine
end

