-- ==== Sys2Proof/Laws/Units.lean ====
section
/-! SUPPORT. Reading a lane, a slot or a carrier place back after it has been set. -/

namespace Sys2Proof.Machine

open Sys2Proof.Config

theorem lane_idx_val_ne {l m : Lane} (h : l ≠ m) : l.idx.val ≠ m.idx.val := by
  cases l <;> cases m <;> first | exact absurd rfl h | decide

@[simp] theorem State.setLane_lane_self (s : State) (l : Lane) (u : LaneUnit) : (s.setLane l u).lane l = u := by
  simp [State.lane, State.setLane]

theorem State.setLane_lane_of_ne (s : State) {l m : Lane} (u : LaneUnit) (h : m ≠ l) :
    (s.setLane l u).lane m = s.lane m := by
  simp [State.lane, State.setLane, lane_idx_val_ne h.symm]

/-- Setting a lane to what it is changes nothing. -/
@[simp] theorem State.setLane_self (s : State) (l : Lane) : s.setLane l (s.lane l) = s := by
  simp [State.lane, State.setLane]

@[simp] theorem State.mapLanes_lane (s : State) (f : Lane → LaneUnit → LaneUnit) (l : Lane) :
    (s.mapLanes f).lane l = f l (s.lane l) := by
  cases l <;> rfl

/-- Two states with the same lane units have the same lanes. -/
theorem lanes_ext {v w : Vector LaneUnit 4} (h : ∀ l : Lane, v[l.idx] = w[l.idx]) : v = w := by
  apply Vector.ext
  intro i hi
  match i, hi with
  | 0, _ => exact h .l1
  | 1, _ => exact h .l2
  | 2, _ => exact h .l3
  | 3, _ => exact h .l4

@[simp] theorem State.setSlot_slot_self (s : State) (i : Slot) (u : SlotUnit) : (s.setSlot i u).slot i = u := by
  simp [State.slot, State.setSlot]

theorem State.setSlot_slot_of_ne (s : State) {i j : Slot} (u : SlotUnit) (h : j ≠ i) :
    (s.setSlot i u).slot j = s.slot j := by
  have hv : i.val ≠ j.val := fun e => h (Fin.ext e.symm)
  simp [State.slot, State.setSlot, hv]

/-- Setting a slot to what it is changes nothing. -/
@[simp] theorem State.setSlot_self (s : State) (i : Slot) : s.setSlot i (s.slot i) = s := by
  simp [State.slot, State.setSlot]

@[simp] theorem State.setLane_slot (s : State) (l : Lane) (u : LaneUnit) (i : Slot) :
    (s.setLane l u).slot i = s.slot i := rfl

@[simp] theorem State.mapLanes_slot (s : State) (f : Lane → LaneUnit → LaneUnit) (i : Slot) :
    (s.mapLanes f).slot i = s.slot i := rfl

@[simp] theorem State.setSlot_lane (s : State) (i : Slot) (u : SlotUnit) (l : Lane) :
    (s.setSlot i u).lane l = s.lane l := rfl

@[simp] theorem State.place_lane (s : State) (k : RequestKey) (l : Lane) : (s.place k).lane l = s.lane l := rfl

@[simp] theorem State.place_slot (s : State) (k : RequestKey) (i : Slot) : (s.place k).slot i = s.slot i := rfl

@[simp] theorem State.withdraw_lane (s : State) (k : RequestKey) (l : Lane) : (s.withdraw k).lane l = s.lane l := rfl

@[simp] theorem State.withdraw_slot (s : State) (k : RequestKey) (i : Slot) : (s.withdraw k).slot i = s.slot i := rfl

@[simp] theorem State.rederiveIndicators_slot (s : State) (ls : List Lane) (i : Slot) :
    (s.rederiveIndicators ls).slot i = s.slot i := rfl

/-- A re-derivation of indicators touches nothing of a lane but its indicator drive. -/
theorem State.rederiveIndicators_lane (s : State) (ls : List Lane) (l : Lane) :
    SameButIndicator (s.lane l) ((s.rederiveIndicators ls).lane l) := by
  unfold State.rederiveIndicators
  rw [State.mapLanes_lane]
  split <;> rfl

theorem State.setCarrier_get_self (s : State) (p : Fin 32) (e : Option CarrierEntry) :
    (s.setCarrier p e).carriers[p] = e := by
  simp [State.setCarrier]

theorem State.setCarrier_get_of_ne (s : State) {p q : Fin 32} (e : Option CarrierEntry) (h : q ≠ p) :
    (s.setCarrier p e).carriers[q] = s.carriers[q] := by
  have hv : p.val ≠ q.val := fun he => h (Fin.ext he.symm)
  simp [State.setCarrier, hv]

theorem State.mapStation_get (s : State) (station : Nat) (f : CarrierEntry → Option CarrierEntry) (p : Fin 32) :
    (s.mapStation station f).carriers[p] =
      s.carriers[p].bind fun e => if e.station = station then f e else some e := by
  simp [State.mapStation]

/-- The used places of the carrier table as a list hold exactly the entries of its places. -/
theorem State.mem_carrierEntries (s : State) (e : CarrierEntry) :
    e ∈ s.carrierEntries ↔ ∃ p : Fin 32, s.carriers[p] = some e := by
  simp only [State.carrierEntries, List.mem_filterMap, id, exists_eq_right, Vector.mem_toList_iff, Vector.mem_iff_getElem]
  constructor
  · rintro ⟨i, hi, h⟩
    exact ⟨⟨i, hi⟩, h⟩
  · rintro ⟨p, h⟩
    exact ⟨p.val, p.isLt, h⟩

end Sys2Proof.Machine
end

