-- ==== Sys2Proof/Laws/Queue.lean ====
section
/-! SUPPORT. What placing and withdrawing a request can do to the transmit queue (R139 to R142). -/

namespace Sys2Proof.Machine

open Sys2Proof.Config

/-- A placement of a new key adds one WAITING request, and a placement of a key already held keeps the keys as they are. -/
theorem placeIn_keys (now : Nat) (k : RequestKey) (type : Option ClaimType) (q : List Request) :
    (placeIn now k type q).map Request.key =
      if k ∈ q.map Request.key then q.map Request.key else q.map Request.key ++ [k] := by
  unfold placeIn
  by_cases h : k ∈ q.map Request.key
  · have hany : q.any (fun r => decide (r.key = k)) = true := by
      simpa [List.any_eq_true] using h
    simp only [hany, h, if_true, List.map_map]
    apply List.map_congr_left
    intro r _
    simp only [Function.comp_apply]
    split
    · unfold Request.renew; split <;> rfl
    · rfl
  · have hany : q.any (fun r => decide (r.key = k)) = false := by
      simpa [List.any_eq_false] using h
    simp [hany, h]

/-- A placement keeps one request for each key. -/
theorem placeIn_nodup {now : Nat} {k : RequestKey} {type : Option ClaimType} {q : List Request}
    (h : (q.map Request.key).Nodup) : ((placeIn now k type q).map Request.key).Nodup := by
  rw [placeIn_keys]
  split
  · exact h
  · rename_i hk
    rw [List.nodup_append]
    refine ⟨h, by simp, ?_⟩
    intro a ha b hb
    rw [List.mem_singleton] at hb
    rintro rfl
    exact hk (hb ▸ ha)

theorem Request.renew_key (now : Nat) (r : Request) : (r.renew now).key = r.key := by
  unfold Request.renew; split <;> rfl

/-- Every request after a placement is one of before, renewed when it has the key, or the new one. -/
theorem mem_placeIn {now : Nat} {k : RequestKey} {type : Option ClaimType} {q : List Request} {r : Request}
    (h : r ∈ placeIn now k type q) :
    (∃ x ∈ q, r = if x.key = k then x.renew now else x) ∨
      (k ∉ q.map Request.key ∧ r = { key := k, age := now, inFlight := false, renewal := none, claimType := type }) := by
  unfold placeIn at h
  split at h
  · obtain ⟨x, hx, rfl⟩ := List.mem_map.mp h
    exact .inl ⟨x, hx, rfl⟩
  · rename_i hany
    rcases List.mem_append.mp h with hr | hr
    · left
      refine ⟨r, hr, ?_⟩
      rw [if_neg]
      intro hk
      exact hany (List.any_eq_true.mpr ⟨r, hr, by simpa using hk⟩)
    · right
      refine ⟨?_, List.mem_singleton.mp hr⟩
      intro hk
      obtain ⟨x, hx, he⟩ := List.mem_map.mp hk
      exact hany (List.any_eq_true.mpr ⟨x, hx, by simpa using he⟩)

/-- A placement of another kind than CLAIM leaves the number of CLAIM requests held. -/
theorem claimsHeld_placeIn_other {now : Nat} {k : RequestKey} {type : Option ClaimType} (q : List Request)
    (h : keyKind k ≠ 1) : claimsHeld (placeIn now k type q) = claimsHeld q := by
  unfold placeIn claimsHeld
  split
  · rw [List.countP_map]
    apply List.countP_congr
    intro r _
    simp only [Function.comp_apply]
    split
    · simp [Request.isClaim, Request.renew_key]
    · rfl
  · simp [List.countP_append, Request.isClaim, h]

/-- A placement adds at most one CLAIM request. -/
theorem claimsHeld_placeIn_le {now : Nat} {k : RequestKey} {type : Option ClaimType} (q : List Request) :
    claimsHeld (placeIn now k type q) ≤ claimsHeld q + 1 := by
  unfold placeIn claimsHeld
  split
  · rw [List.countP_map]
    refine Nat.le_succ_of_le (Nat.le_of_eq (List.countP_congr ?_))
    intro r _
    simp only [Function.comp_apply]
    split
    · simp [Request.isClaim, Request.renew_key]
    · rfl
  · rw [List.countP_append]
    have h1 : ∀ x : Request, List.countP Request.isClaim [x] ≤ 1 := by
      intro x; exact List.countP_le_length
    exact Nat.add_le_add_left (h1 _) _

@[simp] theorem State.place_requests (s : State) (k : RequestKey) :
    (s.place k).queue.requests = placeIn s.now k none s.queue.requests := rfl

@[simp] theorem State.placeClaim_requests (s : State) (station : Nat) (tag : Byte) (type : ClaimType) :
    (s.placeClaim station tag type).queue.requests =
      placeIn s.now (.claim station tag) (some type) s.queue.requests := rfl

/-- All that a withdrawal does: the request of the key leaves, and its frame in flight goes on detached (R141). -/
theorem State.withdraw_eq (s : State) (k : RequestKey) :
    s.withdraw k = { s with
      queue := { s.queue with requests := s.queue.requests.filter fun r => decide (r.key ≠ k) }
      link := { s.link with
        flight := s.link.flight.map
          (Flight.detachFrom k (s.queue.requests.any fun r => decide (r.key = k) && r.inFlight)) } } := rfl

/-- A detachment leaves the frame, its key and its progress. -/
theorem Flight.detachFrom_cases (k : RequestKey) (held : Bool) (f : Flight) :
    f.detachFrom k held = f ∨ (f.key = k ∧ held = true ∧ f.detachFrom k held = { f with detached := true }) := by
  unfold Flight.detachFrom
  split
  · rename_i h; exact .inr ⟨h.1, h.2, rfl⟩
  · exact .inl rfl

/-- A command's event always completes, with what the rules make of the state at the command's own instant. -/
theorem takeEvent_eq_next {s t : State} {effect : State → State} :
    takeEvent s effect = .next t ↔ effect s = t := by
  unfold takeEvent
  constructor
  · intro h; injection h
  · intro h; rw [h]

end Sys2Proof.Machine
end

