-- ==== Sys2Proof/Laws/Evaluation.lean ====
section
/-! SUPPORT. What an evaluation, and every run of evaluations, can do to the state (R97 to R99, R113). -/

namespace Sys2Proof.Machine

open Sys2Proof.Config

/-- What evaluations may have changed: alert states and their timers, indicator drives, and ALERT requests placed. -/
structure Evaluated (s t : State) : Prop where
  rest : t = { s with slots := t.slots, lanes := t.lanes, queue := { s.queue with requests := t.queue.requests } }
  lanes : ∀ l, SameButIndicator (s.lane l) (t.lane l)
  slots : ∀ i, SameButAlert (s.slot i) (t.slot i)
  kept : ∀ k ∈ s.queue.requests.map Request.key, k ∈ t.queue.requests.map Request.key
  new : ∀ k ∈ t.queue.requests.map Request.key, k ∈ s.queue.requests.map Request.key ∨ ∃ i, k = .alert i
  claims : claimsHeld t.queue.requests = claimsHeld s.queue.requests

theorem SameButIndicator.rfl' (u : LaneUnit) : SameButIndicator u u := rfl

theorem SameButIndicator.trans {u v w : LaneUnit} (h : SameButIndicator u v) (g : SameButIndicator v w) :
    SameButIndicator u w := by
  unfold SameButIndicator at *
  rw [g, h]

theorem SameButAlert.rfl' (u : SlotUnit) : SameButAlert u u := rfl

theorem SameButAlert.trans {u v w : SlotUnit} (h : SameButAlert u v) (g : SameButAlert v w) : SameButAlert u w := by
  unfold SameButAlert at *
  rw [g, h]

theorem Evaluated.refl (s : State) : Evaluated s s where
  rest := rfl
  lanes _ := SameButIndicator.rfl' _
  slots _ := SameButAlert.rfl' _
  kept _ h := h
  new _ h := .inl h
  claims := rfl

theorem Evaluated.trans {s t u : State} (h : Evaluated s t) (g : Evaluated t u) : Evaluated s u where
  rest := by rw [g.rest, h.rest]
  lanes l := (h.lanes l).trans (g.lanes l)
  slots i := (h.slots i).trans (g.slots i)
  kept k hk := g.kept k (h.kept k hk)
  new k hk := by
    rcases g.new k hk with h1 | h1
    · exact h.new k h1
    · exact .inr h1
  claims := g.claims.trans h.claims

/-- A change of a slot's alert items is one that evaluations may make, when it keeps the slot's other items. -/
theorem State.changeAlert_evaluated (s : State) (i : Slot) (u : SlotUnit) (request : Bool)
    (hu : SameButAlert (s.slot i) u) : Evaluated s (s.changeAlert i u request) := by
  have hset : Evaluated s (s.setSlot i u) :=
    { rest := rfl
      lanes := fun _ => SameButIndicator.rfl' _
      slots := fun j => by
        by_cases hj : j = i
        · subst hj; rw [State.setSlot_slot_self]; exact hu
        · rw [State.setSlot_slot_of_ne _ _ hj]; exact SameButAlert.rfl' _
      kept := fun _ hk => hk
      new := fun _ hk => .inl hk
      claims := rfl }
  have hplace : ∀ v : State, Evaluated v (v.place (.alert i)) := fun v =>
    { rest := rfl
      lanes := fun _ => SameButIndicator.rfl' _
      slots := fun _ => SameButAlert.rfl' _
      kept := fun k hk => by rw [State.place_requests, placeIn_keys]; split <;> simp_all
      new := fun k hk => by
        rw [State.place_requests, placeIn_keys] at hk
        split at hk
        · exact .inl hk
        · rcases List.mem_append.mp hk with h | h
          · exact .inl h
          · exact .inr ⟨i, by simpa using h⟩
      claims := claimsHeld_placeIn_other _ (by simp [keyKind]) }
  have hind : ∀ (v : State) (ls : List Lane), Evaluated v (v.rederiveIndicators ls) := fun v ls =>
    { rest := rfl
      lanes := fun l => v.rederiveIndicators_lane ls l
      slots := fun _ => SameButAlert.rfl' _
      kept := fun _ hk => hk
      new := fun _ hk => .inl hk
      claims := rfl }
  unfold State.changeAlert
  have h2 : Evaluated s (if request = true then (s.setSlot i u).place (.alert i) else s.setSlot i u) := by
    split
    · exact hset.trans (hplace _)
    · exact hset
  dsimp only
  split
  · exact h2
  · exact h2.trans (hind _ _)

theorem shortSide_sameButAlert (d b : Bool) (u : SlotUnit) : SameButAlert u (shortSide d b u).1 := by
  unfold shortSide
  split
  · rfl
  · rfl
  · split <;> rfl
  · split
    · rfl
    · split <;> rfl
  · split
    · rfl
    · split <;> rfl

/-- The tables of R98 and R99 change nothing of a slot but its alert state and timers. -/
theorem evaluation_sameButAlert (sr : SlotRecord) (c : Nat) (d b : Bool) (u : SlotUnit) :
    SameButAlert u (evaluation sr c d b u).1 := by
  unfold evaluation
  split
  · rfl
  · split
    · rfl
    · exact shortSide_sameButAlert d b u

/-- All that one evaluation can change. -/
theorem State.evaluate_evaluated (s : State) (i : Slot) : Evaluated s (s.evaluate i) := by
  unfold State.evaluate
  split
  · exact s.changeAlert_evaluated i _ _ (evaluation_sameButAlert _ _ _ _ _)
  · exact Evaluated.refl s

/-- All that the evaluations of an event can change. -/
theorem State.evaluateAll_evaluated (s : State) (owed : List Slot) : Evaluated s (s.evaluateAll owed) := by
  unfold State.evaluateAll
  generalize allSlots.filter (fun i => owed.contains i) = is
  induction is generalizing s with
  | nil => exact Evaluated.refl s
  | cons i is ih => exact (s.evaluate_evaluated i).trans (ih (s.evaluate i))

/-- The end of a mute is a change that evaluations may make. -/
theorem State.endMute_evaluated (s : State) (i : Slot) : Evaluated s (s.endMute i) :=
  s.changeAlert_evaluated i _ _ rfl

/-- An event that owes no evaluation makes none. -/
@[simp] theorem State.evaluateAll_nil (s : State) : s.evaluateAll [] = s := by
  have : allSlots.filter (fun i => ([] : List Slot).contains i) = [] := by decide
  rw [State.evaluateAll, this]; rfl

/-- An event that owes one slot's evaluation makes that one. -/
theorem State.evaluateAll_single (s : State) (i : Slot) : s.evaluateAll [i] = s.evaluate i := by
  have : allSlots.filter (fun j => [i].contains j) = [i] := by revert i; decide
  rw [State.evaluateAll, this]; rfl

end Sys2Proof.Machine
end

