-- ==== Sys2Proof/Laws/Events.lean ====
section
/-! SUPPORT. When an event can come: the conditions that the commands test, as the statements say them, and what the shift of a
byte at the port leaves as it was. -/

namespace Sys2Proof.Machine

open Sys2Proof.Config

@[simp] theorem Timer.due_iff (t : Timer) : t.due = true ↔ t = .running 0 := by simp [Timer.due]

@[simp] theorem Timer.due_eq_false_iff (t : Timer) : t.due = false ↔ t ≠ .running 0 := by simp [Timer.due]

/-- The next conversion of a round is due. -/
theorem State.conversionDue_of_converts {s : State} {l : Lane} (h : Converts s l) : s.conversionDue l = true := by
  simp [State.conversionDue, h.due, h.checked, h.supplied]

/-- In supply hold only a capture's late sample is due. -/
theorem State.conversionDue_in_hold {s : State} (h : s.frontEnd.supplyHold = true) (l : Lane) :
    s.conversionDue l = true ↔ s.frontEnd.lateSample = some l := by
  simp [State.conversionDue, h]

@[simp] theorem CountUnit.arithmeticOffset_new (k : CountUnit) : k.arithmeticOffset false = k.zeroOffset := rfl

/-- Without an offset change just before, it does not matter when a sample's arithmetic was done. -/
theorem CountUnit.arithmeticOffset_of_none {k : CountUnit} (h : k.priorOffset = none) (first : Bool) :
    k.arithmeticOffset first = k.zeroOffset := by
  cases first <;> simp [CountUnit.arithmeticOffset, h]

/-- The comparator's test is the one of section 9.4's thresholds. -/
theorem State.shocks_iff (s : State) (rate : SignalRate) :
    s.shocks rate = true ↔ shockThreshold s.config.shockLevel * rate.den < 10000 * rate.num.natAbs := by
  simp [State.shocks, exceedsThreshold]

/-- The receiver can complete some characters exactly as `Assembles` says. -/
theorem Link.assembles_iff (s : State) (chars : List Byte) : s.link.assembles chars = true ↔ Assembles s chars := by
  simp only [Link.assembles, Link.listens, Bool.and_eq_true, Bool.or_eq_true, decide_eq_true_eq, List.isPrefixOf_iff_prefix,
    Option.isNone_iff_eq_none, Link.heard, Link.idleDue, Bool.not_eq_true', Bool.and_eq_false_iff, Bool.or_eq_false_iff,
    decide_eq_false_iff_not]
  constructor
  · rintro ⟨⟨⟨⟨h1, h2⟩, h3⟩, h4⟩, h5⟩
    refine ⟨h1, h2, ?_⟩
    cases hr : s.link.receiver <;> simp_all
  · rintro ⟨h1, h2, h3⟩
    rcases h3 with h | ⟨h | ⟨h, h''⟩, h'⟩ <;> simp_all

/-- The byte of a character's ten bits is the one whose bits lie between its first and its last. -/
theorem charOf_bits (first last : Bool) (c : Byte) : charOf (first :: byteBits c ++ [last]) = c := by
  revert first last c
  decide +kernel

/-- A beginning of a frame goes on unless its third character is above 12 or asks for no more characters. -/
theorem frameGoesOn_append (buffer : List Byte) (c : Byte) : frameGoesOn (buffer ++ [c]) = true ↔
    ∀ len, (buffer ++ [c])[2]? = some len → len.toNat ≤ 12 ∧ buffer.length < len.toNat + 4 := by
  match buffer with
  | [] => simp [frameGoesOn]
  | [_] => simp [frameGoesOn]
  | [_, _] => simp [frameGoesOn]
  | _ :: _ :: _ :: _ => simp [frameGoesOn]

/-- The bits sampled so far are a beginning of a byte exactly as `Forms` says. -/
theorem Port.mayForm_iff (s : State) (b : Byte) : s.port.mayForm b = true ↔ Forms s b := by
  simp [Port.mayForm, Forms]

/-- Bits of a byte beyond its first move its framing alone. -/
theorem Port.shiftBits_eq (bits : List Bool) (p : Port) (h : p.bitCount ≠ 0) (hf : p.fallDue = true) :
    { bits.foldl Port.shiftBit p with bitCount := 0, incoming := [] } = { p with bitCount := 0, incoming := [] } := by
  induction bits generalizing p with
  | nil => rfl
  | cons b rest ih =>
    rw [List.foldl_cons, ih] <;> simp [Port.shiftBit, Port.fall, Port.rise, Port.byteDue, h, hf]

/-- A byte at the port: the outgoing byte is the one that was due, the framing starts again, and the next byte is due. -/
theorem Port.shiftByte_eq (p : Port) (b : Byte) (h : p.incoming.length < 8) : p.shiftByte b =
    { p with
      bitCount := 0, incoming := [], fallDue := true, outgoing := if p.byteDue = true then p.nextOut else p.outgoing } := by
  obtain ⟨x, rest, hr⟩ : ∃ x rest, (byteBits b).drop p.incoming.length = x :: rest := by
    cases hd : (byteBits b).drop p.incoming.length with
    | nil => simp [byteBits] at hd; omega
    | cons x rest => exact ⟨x, rest, rfl⟩
  rw [Port.shiftByte, hr, List.foldl_cons, Port.shiftBits_eq] <;>
    by_cases hf : p.fallDue = true <;> by_cases hb : p.bitCount = 0 <;>
    simp [Port.shiftBit, Port.fall, Port.rise, Port.byteDue, Port.beginByteOut, hf, hb]

/-- All that one edge of the port's clock can do. -/
theorem Port.edge_eq (p : Port) (bit : Bool) : p.edge bit =
    if p.fallDue = true then { p with fallDue := false, outgoing := if p.bitCount = 0 then p.nextOut else p.outgoing }
    else if p.bitCount < 7 then
      { p with bitCount := p.bitCount + 1, incoming := p.incoming ++ [bit], fallDue := true }
    else p := by
  unfold Port.edge Port.fall Port.byteDue Port.beginByteOut Port.rise
  split <;> by_cases h : p.bitCount = 0 <;> simp_all

/-- The edges of the port's clock change its framing and its outgoing byte alone. -/
theorem Port.clock_frame (p : Port) (bits : List Bool) : p.clock bits =
    { p with
      bitCount := (p.clock bits).bitCount, incoming := (p.clock bits).incoming, fallDue := (p.clock bits).fallDue
      outgoing := (p.clock bits).outgoing } := by
  unfold Port.clock
  induction bits generalizing p with
  | nil => rfl
  | cons b rest ih =>
    rw [List.foldl_cons, ih]
    rw [Port.edge_eq]
    split <;> (try split) <;> rfl

/-- Edges at the pins change the port's framing and its outgoing byte alone, and nothing with CPSEL high or in STARTING. -/
theorem State.clocked_frame (s : State) (bits : List Bool) : s.clocked bits =
    { s.port with
      bitCount := (s.clocked bits).bitCount, incoming := (s.clocked bits).incoming, fallDue := (s.clocked bits).fallDue
      outgoing := (s.clocked bits).outgoing } := by
  unfold State.clocked
  split
  · exact Port.clock_frame s.port bits
  · rfl

/-- A byte is taken only with CPSEL low and out of STARTING, and only where the bits sampled so far are a beginning of it. -/
theorem State.takeByte_eq {s : State} {b : Byte} (body : State → State) (hc : s.pins.cpselLow = true)
    (hn : s.startUp.node ≠ .starting) (hb : Forms s b) : s.takeByte b body = body { s with port := { s.port with
      bitCount := 0, incoming := [], fallDue := true
      outgoing := if s.port.byteDue = true then s.port.nextOut else s.port.outgoing } } := by
  rw [State.takeByte, if_pos ⟨hc, hn, (Port.mayForm_iff s b).mpr hb⟩, Port.shiftByte_eq _ _ hb.2]

/-- A byte whose beginning the bits sampled so far are not is not taken. -/
theorem State.takeByte_other {s : State} {b : Byte} (body : State → State) (hb : ¬ Forms s b) : s.takeByte b body = s := by
  rw [State.takeByte, if_neg fun h => hb ((Port.mayForm_iff s b).mp h.2.2)]

end Sys2Proof.Machine
end

