-- ==== Sys2Proof/WellFormed.lean ====
section
/-! DEFINITION. The commands that spell an event of the part. The operands' types hold their ranges but for the checks made
here. -/

namespace Sys2Proof

open Sys2Proof.Machine

/-- A fraction has a denominator (R13). -/
def readingFormed : ExcitationReading → Bool
  | .saturated => true
  | .fraction _ den => decide (den ≠ 0)

/-- A length that ends a frame at once is above 12 (R122). -/
def causeFormed : FramingError → Bool
  | .stopBitDominant => true
  | .startBitRecessive => true
  | .lengthAbove12 length => decide (12 < length.toNat)

/-- A command is well formed: a check's fraction and a rate of change have a denominator (R9, R13); an entry's station is 1 to
120; arbitration is lost at a data bit of the first two characters (R125); a readback fails at a bit of a frame of at most 17
characters (R118); fewer than eight bits precede a deselection (R148); an unknown code is none of the table (R150); a length
error has a length above 12; a dropped frame is complete and not valid (R122). -/
def Instr.wellFormed : Instr → Bool
  | .roundStart => true
  | .excitationCheck reading => readingFormed reading
  | .sampleEvent _ _ _ => true
  | .holdTimerExpiry _ => true
  | .quietTimerExpiry => true
  | .shockComparatorEdge rate => decide (rate.den ≠ 0)
  | .shockSpacingTimerExpiry => true
  | .vddBelowHoldLevel => true
  | .vddAtHoldLevel => true
  | .dipFilterExpiry => true
  | .pendingOutExpiry _ => true
  | .heardOfferExpiry station _ => validStation station
  | .carrierEntryStale station => validStation station
  | .carrierEntryRemoved station => validStation station
  | .settlingInExpiry => true
  | .refreshTimerExpiry _ => true
  | .takeoverTimerExpiry _ => true
  | .repeatTimerExpiry _ => true
  | .muteTimerExpiry _ => true
  | .noticeTimerExpiry _ => true
  | .presenceTimerExpiry => true
  | .shockReception _ => true
  | .claimReception _ _ _ _ => true
  | .offerReception _ _ _ _ _ _ _ => true
  | .hushReception _ _ _ => true
  | .alertReception _ _ _ _ _ _ => true
  | .noticeReception _ _ _ _ => true
  | .stockReception _ _ _ _ => true
  | .presenceReception _ _ _ => true
  | .addressConflict _ => true
  | .transmissionStart => true
  | .lostArbitration char bit => decide (char < 2) && decide (1 ≤ bit) && decide (bit ≤ 8)
  | .readbackFailure char bit => decide (char < 17) && decide (bit < 10)
  | .dominantTimeout => true
  | .transmissionEnd => true
  | .quarantineExpiry => true
  | .linkBecomesActive => true
  | .portSelect => true
  | .portDeselect clocked => decide (clocked.length ≤ 7)
  | .parameterByte _ => true
  | .unknownCommand code => !knownCode code.toNat
  | .setStation => true
  | .setLink => true
  | .setNeighbours => true
  | .writeSlots => true
  | .writeLanes => true
  | .captureZero => true
  | .captureSpan => true
  | .store => true
  | .storeComplete => true
  | .start => true
  | .restart => true
  | .readStatus => true
  | .readLane => true
  | .readSlot => true
  | .readCarriers => true
  | .powerOn _ => true
  | .supplyDip => true
  | .pin => true
  | .retentionLoss => true
  | .restartRelease _ => true
  | .startDecision => true
  | .comparatorOutputInactive rate => decide (rate.den ≠ 0)
  | .framingError cause => causeFormed cause
  | .lineIdle => true
  | .invalidFrameDropped frame => frameComplete frame && !frameValid frame

end Sys2Proof
end

