-- ==== Sys2Proof/Tests/Slice0.lean ====
section
/-! SUPPORT. Tests of the model, each a named theorem: an ill-formed command for each check of WellFormed, one step with the
figures of a worked case of the spec, and for each statement of Obligations.lean that has hypotheses a concrete state and
operands that meet them, clause by clause, with the values where clauses meet. -/

namespace Sys2Proof.Tests

-- one test after another: many at once need more memory than a check of the package has
set_option Elab.async false

open Sys2Proof.Machine Sys2Proof.Config

/-! ## Small states -/

/-- Lane 1 as the worked cases configure it (sections 3.3.1, 9.6.1). -/
def lane1 : LaneRecord :=
  { LaneRecord.default with
    enabled := true, unitWeight := 2350, allowance := 20, baseTol := 60, motion := 400, band := 30, span := 512,
    spanCaptured := true }

/-- Station 15 with article 4,017,233 in slot 0 on lanes 1 and 3 (sections 3.6.1, 6.2.1). -/
def bay : NodeConfig :=
  { NodeConfig.default with
    station := 15, bitRate := .k100, neighbours := [14]
    slots := NodeConfig.default.slots.set 0 { article := 4017233, reorderPoint := 20, hysteresis := 10 }
    lanes := #v[lane1, LaneRecord.default, lane1, LaneRecord.default] }

/-- A lane in STABLE with 10 cases of 2,350 g. -/
def ten : LaneUnit :=
  { LaneUnit.cleared with
    warmUp := 0
    settler := { Settler.runEntry with
      state := some .stable, window := List.replicate 8 23500, reference := 23500, known := true }
    counting := { CountUnit.cleared with count := 10 } }

/-- Slot 0 with both lanes known. -/
def twenty : SlotUnit := { SlotUnit.cleared with holding := 20, ready := true, refreshTimer := .running 120000000 }

/-- The bay in RUN, its link ACTIVE and its settling-in period over. -/
def inRun : State :=
  { State.reset with
    startUp := { State.reset.startUp with
      node := .run, startDelay := .stopped, image := bay, markerValid := true, indicatorClock := some 0 }
    working := bay, running := bay
    lanes := #v[ten, LaneUnit.cleared, ten, LaneUnit.cleared]
    slots := State.reset.slots.set 0 twenty
    settlingIn := .ended
    queue := { requests := [], presenceTimer := .running 10000000, restartFlag := false }
    link := { Link.cleared with state := .active, recessiveCount := 15, receiver := .searching }
    frontEnd := { State.reset.frontEnd with roundTimer := .running 0, roundLanes := [.l1, .l3] }
    now := 100 }

/-- The bay in CONFIGURING with CPSEL low. -/
def session : State :=
  { State.reset with
    startUp := { State.reset.startUp with node := .configuring, startDelay := .stopped, indicatorClock := some 0 }
    working := bay
    frontEnd := { State.reset.frontEnd with roundTimer := .running 0 }
    pins := { State.reset.pins with cpselLow := true } }

/-- A state with its front end changed. -/
def withFront (s : State) (f : FrontEnd → FrontEnd) : State := { s with frontEnd := f s.frontEnd }

/-- A state with its port changed. -/
def withPort (s : State) (f : Port → Port) : State := { s with port := f s.port }

/-- A state with its link changed. -/
def withLink (s : State) (f : Link → Link) : State := { s with link := f s.link }

/-- A state with a lane changed. -/
def withLane (s : State) (l : Lane) (f : LaneUnit → LaneUnit) : State := s.setLane l (f (s.lane l))

/-- A state with a slot changed. -/
def withSlot (s : State) (i : Slot) (f : SlotUnit → SlotUnit) : State := s.setSlot i (f (s.slot i))

/-- A state whose next conversion is that of a lane. -/
def converting (s : State) (l : Lane) : State :=
  withFront s fun f => { f with checkDue := false, supplyHold := false, conversionsDue := [l] }

/-- Lane 1 one sample before its settle event, all its samples of some grams. -/
def beforeSettle (g reference : Int) (known : Bool) (foreign : Option ForeignRecord) : State :=
  withLane (converting inRun .l1) .l1 fun u =>
    { u with
      settler := { u.settler with
        state := some .settling, window := List.replicate 8 g, settleCounter := 9, known := known
        reference := reference }
      foreign := foreign }

/-- The raw code of some grams at S = 512 and Z = 0. -/
def codeOf (g : Int) : BitVec 24 := BitVec.ofInt 24 (g * 128)

/-- A pending-out entry of one case of 1,000 g. -/
def away (tag : Byte) (article : Nat) (status : OfferStatus) : PendingOut :=
  { tag := tag, article := article, lane := .l3, count := 1, grams := 1000, tol := 40, remaining := 30000000,
    status := status }

/-- A heard offer of station 31. -/
def offered (tag : Byte) (article : Nat) (claim : ClaimStatus) (type : Option ClaimType) (lane : Option Lane) : HeardOffer :=
  { station := 31, tag := tag, article := article, count := 1, grams := 1000, tol := 40, remaining := 30000000,
    claimStatus := claim, claimType := type, claimLane := lane }

/-- A state with lists of the matcher. -/
def withLists (s : State) (p : List PendingOut) (h : List HeardOffer) : State :=
  { s with matcher := { s.matcher with pendingOut := p, heard := h } }

/-- Eight pending-out entries. -/
def fullOut : List PendingOut := [0, 1, 2, 3, 4, 5, 6, 7].map fun n => away (BitVec.ofNat 8 n) 6100412 .sent

/-- Eight heard offers. -/
def fullHeard : List HeardOffer :=
  [0, 1, 2, 3, 4, 5, 6, 7].map fun n => offered (BitVec.ofNat 8 n) 6100412 .none none none

/-- A carrier entry of slot 0. -/
def carrier (station holding : Nat) (band : Band) (uncertain : Bool) : CarrierEntry :=
  { station := station, slot := 0, holding := holding, uncertain := uncertain
    age := if band = .fresh then 0 else 35000000, band := band }

/-- A state with carrier entries in its first places. -/
def withCarriers (s : State) (a b : Option CarrierEntry) : State :=
  { s with carriers := ((Vector.replicate 32 none).set 0 a).set 1 b }

/-- A request that waits. -/
def waiting (key : RequestKey) : Request :=
  { key := key, age := 7, inFlight := false, renewal := none, claimType := none }

/-- Eight CLAIM requests. -/
def eightClaims : List Request := [0, 1, 2, 3, 4, 5, 6, 7].map fun n => waiting (.claim 12 (BitVec.ofNat 8 n))

/-- A state with requests. -/
def withRequests (s : State) (q : List Request) : State := { s with queue := { s.queue with requests := q } }

/-- A frame of this node in flight, for a request, and how far it has been sent. -/
def flyingAt (position : Nat) (key : RequestKey) (payload : Payload) : Flight :=
  { frame := { station := 15, payload := payload }, key := key, position := position, detached := false,
    delivered := false }

/-- The same at its first bit. -/
def flying (key : RequestKey) (payload : Payload) : Flight := flyingAt 0 key payload

/-- A state with that frame on the line. -/
def sending (s : State) (key : RequestKey) (payload : Payload) : State :=
  withLink (withRequests s [{ waiting key with inFlight := true }]) fun k =>
    { k with driver := .driving, flight := some (flying key payload) }

/-! ## WellFormed: a term that each check refuses -/

theorem test_fraction_needs_a_denominator : (Instr.excitationCheck (.fraction 3 0)).wellFormed = false := by decide +kernel
theorem test_rates_need_a_denominator :
    (Instr.shockComparatorEdge ⟨1, 0⟩).wellFormed = false ∧
      (Instr.comparatorOutputInactive ⟨1, 0⟩).wellFormed = false := by decide +kernel
theorem test_heard_offer_station_0_refused : (Instr.heardOfferExpiry 0 1).wellFormed = false := by decide +kernel
theorem test_stale_station_121_refused : (Instr.carrierEntryStale 121).wellFormed = false := by decide +kernel
theorem test_removed_station_0_refused : (Instr.carrierEntryRemoved 0).wellFormed = false := by decide +kernel
theorem test_arbitration_ends_with_second_character : (Instr.lostArbitration 2 1).wellFormed = false := by decide +kernel
theorem test_arbitration_not_lost_at_stop_bit : (Instr.lostArbitration 0 9).wellFormed = false := by decide +kernel
theorem test_readback_past_longest_frame_refused : (Instr.readbackFailure 17 0).wellFormed = false := by decide +kernel
theorem test_eight_bits_are_a_byte :
    (Instr.portDeselect [true, true, true, true, true, true, true, true]).wellFormed = false := by decide +kernel
theorem test_known_code_is_not_unknown : (Instr.unknownCommand 16).wellFormed = false := by decide +kernel
theorem test_length_12_is_no_error : (Instr.framingError (.lengthAbove12 12)).wellFormed = false := by decide +kernel
theorem test_incomplete_frame_not_dropped : (Instr.invalidFrameDropped [0, 1]).wellFormed = false := by decide +kernel
theorem test_valid_frame_not_dropped :
    (Instr.invalidFrameDropped (frameChars { station := 15, payload := .shock })).wellFormed = false := by decide +kernel
theorem test_well_formed_terms_accepted :
    (Instr.excitationCheck (.fraction 3 4)).wellFormed = true ∧ (Instr.lostArbitration 1 8).wellFormed = true ∧
      (Instr.unknownCommand 255).wellFormed = true ∧ (Instr.framingError (.lengthAbove12 13)).wellFormed = true ∧
      (Instr.invalidFrameDropped [0, 15, 0, 0, 0]).wellFormed = true := by decide +kernel

/-! ## Figures of the spec's worked cases -/

/-- Section 1.3.1, cases 1 to 4. -/
theorem test_worked_gram_samples :
    (sampleOf { lane1 with zeroCode := 120000 } 12 4285000).grams = some 32527 ∧
      (sampleOf { lane1 with zeroCode := 120000 } (-3) 119800).grams = some 1 ∧
      (sampleOf lane1 0 64).grams = some 1 ∧ (sampleOf lane1 0 (BitVec.ofInt 24 (-64))).grams = some (-1) := by decide +kernel

/-- Section 2.2.1. -/
theorem test_worked_window :
    narrow 30 [32520, 32527, 32531, 32518, 32525, 32529, 32522, 32526] = true ∧
      narrow 10 [32520, 32527, 32531, 32518, 32525, 32529, 32522, 32526] = false ∧
      filteredWeight [32520, 32527, 32531, 32518, 32525, 32529, 32522, 32526] = 32525 ∧
      filteredWeight [-2, -3, -2, -3, -2, -3, -2, -3] = -3 := by decide +kernel

/-- Section 3.3.1: accepted, rejected, an exact half, and the clamp at 999. -/
theorem test_worked_counts :
    figuresOf lane1 33320 0 = { effective := 33320, n := 14, residual := 420, tolerance := 718, accepted := true } ∧
      figuresOf lane1 34075 0 = { effective := 34075, n := 15, residual := -1175, tolerance := 765, accepted := false } ∧
      figuresOf { lane1 with unitWeight := 5, allowance := 0, baseTol := 3 } 99999 0 =
        { effective := 99999, n := 999, residual := 95004, tolerance := 3, accepted := false } ∧
      figuresOf lane1 31560 1005 =
        { effective := 30555, n := 13, residual := 5, tolerance := 671, accepted := true } := by decide +kernel

/-- Section 3.7.1, rows 3 to 5. -/
theorem test_worked_zero_tracking :
    trackingBound { lane1 with unitWeight := 150 } = 37 ∧ trackedOffset 480 40 = 500 ∧
      trackedOffset (-500) (-30) = -500 := by decide +kernel

/-- Section 6.2.1, rows 3 and 4: (31, 6) is higher than (6, 15) because 15 is lower than 31, and (31, 5) is lower. -/
theorem test_worked_keys : keyLower 6 15 6 31 = true ∧ keyLower 6 15 7 12 = true ∧ keyLower 5 31 6 15 = true := by decide +kernel

/-- Section 7.4.1: 12's STOCK loses at data bit 2, 31's CLAIM at data bit 0, and 31 loses to 15 at data bit 4. -/
theorem test_worked_contest :
    losesArbitrationAt (frameChars { station := 12, payload := .stock 1 1 0 }) 0 6 = true ∧
      losesArbitrationAt (frameChars { station := 12, payload := .stock 1 1 0 }) 0 5 = false ∧
      losesArbitrationAt (frameChars { station := 31, payload := .claim 1 1 1 }) 0 8 = true ∧
      losesArbitrationAt (frameChars { station := 31, payload := .claim 1 1 1 }) 1 4 = true := by decide +kernel

/-- Section 9.5.1: U 40,000 is refused; B 800 and Ks 2 are applied as 500 and 4; a span field of 0 keeps the calibration. -/
theorem test_worked_window_write :
    laneRecordOf LaneRecord.default [128, 0x9C, 0x40, 20, 0, 60, 1, 144, 0, 30, 10, 0, 0, 0, 0, 0] = none ∧
      (laneRecordOf LaneRecord.default [128, 0x09, 0x2E, 20, 0, 60, 1, 144, 3, 32, 2, 0, 0, 0, 0, 0]).map
        (fun r => (r.enabled, r.unitWeight, r.band, r.settleCount, r.spanCaptured)) =
          some (true, 2350, 500, 4, false) := by decide +kernel

/-- Section 9.6.1. -/
theorem test_worked_captures : roundDiv 3840016 32 = 120001 ∧ capturedSpan 20000 85760045 120001 = some 512 := by decide +kernel

/-- Section 12.1.1 describes the check of the polynomial x^16 + x^12 + x^5 + 1 from all ones. PRESUMED: the published
check value of that check, of the nine digits, is 29B1 in hexadecimal. -/
theorem test_check_of_nine_digits : checkOf [0x31, 0x32, 0x33, 0x34, 0x35, 0x36, 0x37, 0x38, 0x39] = 0x29B1 := by decide +kernel

/-- R9 at shock level 2, 0.5 % of full scale per millisecond: a rate above it, in either direction, sets the latch; a rate at it
does not. -/
theorem test_shock_edge_sets_latch :
    exec (.shockComparatorEdge ⟨-51, 10000⟩) inRun = .next (withFront inRun fun f =>
        { f with comparatorActive := true, shockLatch := true }) ∧
      exec (.shockComparatorEdge ⟨50, 10000⟩) inRun = .next inRun := by
  constructor <;> rfl

/-- R4, R37: after an event that moved the zero offset from 0 to 20 g, the next sample of the lane has the old offset when its
arithmetic was done first, and the new one otherwise. -/
theorem test_sample_computed_first :
    ∀ first, ∀ t, exec (.sampleEvent .l1 (codeOf 23500) first) (withLane (converting inRun .l1) .l1 fun u =>
        { u with counting := { u.counting with zeroOffset := 20, priorOffset := some 0 } }) = .next t →
      (t.lane .l1).lastSample.grams = some (if first = true then 23500 else 23480) := by
  intro first t h
  cases h
  cases first <;> decide +kernel

/-- R131: 28 and 4 make 32, which is QUARANTINE. -/
theorem test_health_32_quarantines :
    (withLink inRun fun k => { k with health := 28 }).link.countFailure.state = .quarantine ∧
      (withLink inRun fun k => { k with health := 27 }).link.countFailure.state = .active := by decide +kernel

/-- R143: takeover timers of slots 3 and 1 that run out at one instant of the timebase place requests of one age, in whichever
order the expiries are taken, and slot 1 goes first. -/
theorem test_requests_of_one_instant_go_by_key :
    ∀ order, order = [(3 : Slot), 1] ∨ order = [(1 : Slot), 3] →
      ((order.foldl (fun (s : State) i => s.place (.alert i)) inRun).queue.requests.map Request.age = [100, 100]) ∧
      (firstWaiting (order.foldl (fun (s : State) i => s.place (.alert i)) inRun).queue.requests).map Request.key =
        some (.alert 1) := by
  rintro order (rfl | rfl) <;> decide +kernel

/-- R59: an OFFER whose window has run out, its expiry still to come, carries 1 s; one with 30 s to go carries 30 s. -/
theorem test_offer_window_is_at_least_1 :
    (withLists inRun [{ away 0 6100412 .queued with remaining := 0 }] []).build (waiting (.offer 0)) =
        some (.offer 0 6100412 1 1000 40 1) ∧
      (withLists inRun [away 0 6100412 .queued] []).build (waiting (.offer 0)) = some (.offer 0 6100412 1 1000 40 30) := by
  decide +kernel

/-- R127: a driver that is released, or kept released, has no dominant timeout. -/
theorem test_no_timeout_of_a_released_driver :
    exec .dominantTimeout (withLink (sending inRun .shock .shock) fun k => { k with driver := .released }) =
      .next (withLink (sending inRun .shock .shock) fun k => { k with driver := .released }) := rfl

/-- R113, R114 and R171: an AUDIT lane is steady; slot 0 RAISED blinks slowly on both its lanes, on at 499 ms and off at 500 ms of
the clock; the status indicator is steady in ACTIVE and flashes twice in SILENCED. -/
theorem test_indicators :
    (withLane inRun .l1 fun u => { u with notice := { u.notice with audit := true, foreign := true } }).indicatorOf .l1 = .steady ∧
      (withSlot inRun 0 fun u => { u with alert := .raised }).indicatorOf .l3 = .slowBlink ∧
      [499999, 500000].map (fun c => (withLane { inRun with startUp := { inRun.startUp with indicatorClock := some c } } .l1
        fun u => { u with notice := { u.notice with indicator := .slowBlink } }).laneIndicatorOn .l1) = [true, false] ∧
      inRun.statusDrive = .steady ∧ (withLink inRun fun k => { k with state := .silenced }).statusDrive = .doubleFlash := by
  decide +kernel

/-- No row of the table has bits: no word spells a command. -/
theorem test_no_word_spells_a_command : decodeTableWord 8 0 = none ∧ State.reset.withFetchWord 8 0 = State.reset := by
  constructor <;> rfl

/-! ## Witnesses: the machine -/

/-- A command at the front; an empty queue at either bit rate, in each state of the settling-in timer; a link in OFF, one with no
frame, one with a dominant bit and one with a recessive bit to send, and one whose driver is kept released. -/
theorem witness_StepRunsFrontCommand :
    (∃ (c : Instr) (rest : List Instr) (s : State), s.pending = c :: rest) ∧
      (inRun.pending = [] ∧ inRun.running.bitRate = .k100 ∧ inRun.settlingIn = .ended) ∧
      (State.reset.pending = [] ∧ State.reset.running.bitRate = .k50 ∧ State.reset.settlingIn = .notStarted ∧
        State.reset.link.state = .off) ∧
      (∀ d, ({ inRun with settlingIn := .running d } : State).settlingIn = .running d) ∧
      (inRun.link.state ≠ .off ∧ inRun.link.flight = none) ∧
      (∀ inhibited, ∀ s, s = withLink (sending inRun .shock .shock) (fun k => { k with driverInhibited := inhibited }) →
        s.link.flight = some (flying .shock .shock) ∧ s.link.driverInhibited = inhibited ∧ s.link.state ≠ .off) ∧
      (∀ others, LineRecessive others inRun.link ↔ others = true) ∧
      (∀ receiver bits, ∀ s, s = withLink inRun (fun k => { k with receiver := receiver, bits := bits }) →
        s.link.receiver = receiver ∧ s.link.bits = bits) ∧
      (bitAt (frameChars (flying .shock .shock).frame) 8 = false ∧ bitAt (frameChars (flying .shock .shock).frame) 9 = true ∧
        9 < 10 * (frameChars (flying .shock .shock).frame).length) := by
  refine ⟨⟨.roundStart, [.store], { inRun with pending := [.roundStart, .store] }, rfl⟩, by decide +kernel, by decide +kernel,
    fun _ => rfl, by decide, ?_, fun others => ⟨fun h => h.2 nofun, fun h => ⟨nofun, fun _ => h⟩⟩, ?_, by decide +kernel⟩
  · rintro inhibited s rfl
    exact ⟨rfl, rfl, nofun⟩
  · rintro receiver bits s rfl
    exact ⟨rfl, rfl⟩

/-- The bits of a frame on the line, as other stations leave them. -/
def onLine (f : Frame) : List Bool := (frameChars f).flatMap charBits

/-- R120, R121: a SHOCK of station 31 bit by bit on an idle line that had the spacing flag set: its first start bit begins a
character, its second character goes on in the third bit, and before its last stop bit the receiver can complete it and no other
frame. -/
theorem test_receiver_assembles_bits :
    ((Link.bitTimes ((onLine { station := 31, payload := .shock }).take 1)
        { inRun.link with recessiveCount := 14, spacing := true }).bits = [false] ∧
      (Link.bitTimes [false] { inRun.link with recessiveCount := 14, spacing := true }).spacing = false) ∧
      ((Link.bitTimes ((onLine { station := 31, payload := .shock }).take 20) inRun.link).receiver = .betweenCharacters ∧
        (Link.bitTimes ((onLine { station := 31, payload := .shock }).take 20) inRun.link).buffer = [0, 31] ∧
        (Link.bitTimes ((onLine { station := 31, payload := .shock }).take 20) inRun.link).recessiveCount = 6) ∧
      (Link.bitTimes ((onLine { station := 31, payload := .shock }).take 49) inRun.link).assembles
        (frameChars { station := 31, payload := .shock }) = true ∧
      (Link.bitTimes ((onLine { station := 31, payload := .shock }).take 49) inRun.link).assembles
        (frameChars { station := 32, payload := .shock }) = false := by decide +kernel

/-- R121: after a byte of 255 a gap of 2 bit times more makes the count 11, and a dominant level then starts a new frame; a
dominant stop bit waits for FRAMING_ERROR; a receiver that waits for idle does not start at a count of 10. -/
theorem test_receiver_gaps_and_errors :
    (Link.bitTimes (charBits 255 ++ [true, false]) inRun.link).buffer = [255] ∧
      (Link.bitTimes (charBits 255 ++ [true, true, false]) inRun.link).buffer = [] ∧
      (Link.bitTimes ([false] ++ byteBits 7 ++ [false]) inRun.link).meetsError .stopBitDominant = true ∧
      (Link.bitTimes (charBits 7) inRun.link).sampled = false ∧
      (Link.bitTime false { inRun.link with receiver := .waitingForIdle, recessiveCount := 10 }).receiver = .waitingForIdle := by
  decide +kernel

/-- A RUN state with a command waiting; the other invariants take it changed. -/
def busy : State := { inRun with pending := [.roundStart] }

theorem witness_StepKeepsLanesBounded : LanesBounded busy ∧ ∃ t, step busy = .next t := by
  refine ⟨fun l => ?_, _, rfl⟩
  cases l <;>
    exact ⟨by decide, by decide, by decide, by decide, by decide, by decide, by unfold Tallies.bounded; decide⟩

/-- Slot 0 follows, its takeover timer RUNNING. -/
def following : State :=
  withSlot busy 0 fun u => { u with alert := .following, takeoverTimer := .running 150000000 }

theorem following_timed : AlertsTimed following := fun i =>
  ⟨by revert i; decide +kernel, by revert i; decide +kernel, by revert i; decide +kernel⟩

theorem witness_StepKeepsAlertsTimed : AlertsTimed following ∧ ∃ t, step following = .next t :=
  ⟨following_timed, _, rfl⟩

/-- A PRESENCE in flight, the health counter at the highest value of ACTIVE. -/
def presenceFlying : State :=
  withLink (sending busy .presence (.presence 1 0)) fun k => { k with health := 31 }

theorem witness_StepKeepsLinkSound : LinkSound presenceFlying ∧ ∃ t, step presenceFlying = .next t :=
  ⟨⟨by decide, fun _ => by decide, fun _ => by decide, by decide, by decide, by decide, by decide, fun _ => by decide⟩, _, rfl⟩

/-- Full lists, and an OFFER that waits. -/
def crowded : State :=
  withRequests (withLists busy (fullOut.set 3 (away 3 6100412 .queued)) fullHeard) [waiting (.offer 3), waiting .shock]

theorem crowded_lists : ListsSound crowded :=
  ⟨by decide +kernel, by decide +kernel, by decide +kernel, by decide +kernel, by decide +kernel⟩

theorem crowded_sound : QueueSound crowded :=
  ⟨crowded_lists, by decide +kernel, by decide +kernel, by decide +kernel⟩

theorem witness_StepKeepsQueueSound : QueueSound crowded ∧ ∃ t, step crowded = .next t := ⟨crowded_sound, _, rfl⟩

theorem session_rests : AtRest session where
  settlers l := by cases l <;> rfl
  counts l := by cases l <;> rfl
  records l := by cases l <;> rfl
  notices l := by cases l <;> rfl
  matcher := rfl
  slots i := by revert i; decide +kernel
  carriers := rfl
  settlingIn := rfl
  queue := rfl
  link := rfl
  mode := rfl
  quiet := rfl
  spacing := rfl

theorem witness_StepKeepsRestsOutsideRun :
    session.startUp.node ≠ .run ∧ RestsOutsideRun session ∧ ∃ t, step session = .next t :=
  ⟨by decide, fun _ => session_rests, _, rfl⟩

theorem default_record_ranged : LaneRanged LaneRecord.default :=
  ⟨by decide, by decide, by decide, by decide, by decide, by decide, by decide, by decide⟩

theorem lane1_ranged : LaneRanged lane1 :=
  ⟨by decide, by decide, by decide, by decide, by decide, by decide, by decide, by decide⟩

theorem bay_ranged : ConfigRanged bay where
  station := by decide
  window := by decide
  level := by decide
  count := by decide
  stations := by decide
  distinct := by decide
  slots i := ⟨by revert i; decide +kernel, by revert i; decide +kernel, by revert i; decide +kernel⟩
  lanes l := by
    cases l
    · exact lane1_ranged
    · exact default_record_ranged
    · exact lane1_ranged
    · exact default_record_ranged

theorem witness_StepKeepsConfigSound : ConfigSound busy ∧ ∃ t, step busy = .next t :=
  ⟨⟨bay_ranged, bay_ranged, fun _ => bay_ranged, by intro c h; cases h⟩, _, rfl⟩

theorem carriers_get (s : State) (a b : Option CarrierEntry) (p : Fin 32) :
    (withCarriers s a b).carriers[p] = if p = 0 then a else if p = 1 then b else none := by
  simp only [withCarriers, Fin.getElem_fin, Vector.getElem_set, Vector.getElem_replicate, Fin.ext_iff]
  by_cases h0 : p.val = 0 <;> by_cases h1 : p.val = 1 <;> simp_all [eq_comm]

theorem two_carriers_sound (s : State) (a b : CarrierEntry) (hs : a.station ≠ b.station) (ha : 1 ≤ a.station ∧
    a.station ≤ 120 ∧ a.station ≠ s.running.station) (hb : 1 ≤ b.station ∧ b.station ≤ 120 ∧
    b.station ≠ s.running.station) : CarriersSound (withCarriers s (some a) (some b)) := by
  constructor
  · intro p q e f he hf hst _
    rw [carriers_get] at he hf
    split at he <;> split at hf <;> simp_all
  · intro p e he
    rw [carriers_get] at he
    split at he
    · cases he; exact ha
    · split at he <;> cases he
      exact hb
  · intro p q e f he hf hst
    rw [carriers_get] at he hf
    split at he <;> split at hf <;> simp_all

/-- Stations 12 and 31 carry the article of slot 0, station 12 STALE. -/
def carried : State := withCarriers busy (some (carrier 31 6 .fresh false)) (some (carrier 12 9 .stale false))

theorem carried_sound : CarriersSound carried :=
  two_carriers_sound busy _ _ (by decide) (by decide) (by decide)

theorem witness_StepKeepsCarriersSound : CarriersSound carried ∧ ∃ t, step carried = .next t := ⟨carried_sound, _, rfl⟩

theorem witness_StepKeepsIndicatorsShown :
    (IndicatorsShown busy ∧ ∃ t, step busy = .next t) ∧
      (State.reset.startUp.indicatorClock = none ∧ busy.startUp.indicatorClock = some 0) ∧
      (∀ c, ({ busy with startUp := { busy.startUp with indicatorClock := some c } } : State).startUp.indicatorClock = some c) ∧
      (∃ i, articleSlot busy.running (articleOfLane busy.running .l1) = some i) :=
  ⟨⟨fun l => by cases l <;> rfl, _, rfl⟩, ⟨rfl, rfl⟩, fun _ => rfl, 0, by decide +kernel⟩

/-- A STORE in a phase. -/
def storingIn (phase : StorePhase) : State :=
  { withPort session fun p => { p with operation := .store } with
    startUp := { session.startUp with storePhase := phase } }

/-- A STORE at its last step. -/
def storing : State := storingIn .writing

/-- R167: STORE leaves the phase MARKER CLEARED, from which the next tick goes to WRITING, and a supply hold before it leaves the
image. -/
theorem test_store_clears_then_writes :
    (∃ t, exec .store session = .next t ∧ t.startUp.storePhase = .markerCleared ∧ t.startUp.markerValid = false) ∧
      (storingIn .markerCleared).startUp.tick.storePhase = .writing ∧
      (storingIn .markerCleared).failOperation.startUp.image = session.startUp.image ∧
      (storingIn .markerCleared).failOperation.port.result = .storeFailed :=
  ⟨⟨_, rfl, rfl, rfl⟩, rfl, rfl, rfl⟩

theorem witness_ImageAndMarkerChangeOnlyInStore :
    (∃ t, exec .roundStart busy = .next t ∧ busy.startUp.storePhase = .none ∧ Instr.roundStart ≠ .store) ∧
      (∃ t, exec .restart (storingIn .markerCleared) = .next t ∧
        (storingIn .markerCleared).startUp.storePhase = .markerCleared ∧ Instr.restart ≠ .storeComplete) ∧
      (∃ t, exec .storeComplete storing = .next t ∧ t.startUp.markerValid = true ∧
        storing.startUp.markerValid = false ∧ t.startUp.image ≠ storing.startUp.image) :=
  ⟨⟨_, rfl, rfl, by decide⟩, ⟨_, rfl, rfl, by decide⟩, _, rfl, rfl, rfl, by decide +kernel⟩

/-! ## Witnesses: weighing front end -/

/-- In CONFIGURING with the capture of lane 2, which is not enabled; in SLOW mode; after a round without lane 3. -/
def capturing (samples : Nat) (op : Operation) : State :=
  withPort session fun p =>
    { p with operation := op, capture := some { lane := .l2, load := 20000, samples := samples, sum := 0 } }

theorem witness_RoundStartBeginsTheRound :
    (State.reset.startUp.node = .starting ∧
        (withFront busy fun f => { f with roundTimer := .running 20 }).frontEnd.roundTimer ≠ .running 0) ∧
      (∀ hold, ∀ s, s = withFront busy (fun f => { f with supplyHold := hold }) → s.startUp.node ≠ .starting ∧
        s.frontEnd.roundTimer = .running 0 ∧ s.frontEnd.shockLatch = false ∧ s.frontEnd.supplyHold = hold) ∧
      ((capturing 0 .captureZero).startUp.node ≠ .starting ∧
        (capturing 0 .captureZero).frontEnd.roundTimer = .running 0 ∧
        (capturing 0 .captureZero).frontEnd.shockLatch = false) := by
  refine ⟨by decide, ?_, by decide⟩
  rintro hold s rfl
  exact ⟨nofun, rfl, rfl, rfl⟩

/-- A SET latch over a lane of each kind: lane 1 STABLE, lane 3 as given, lanes 2 and 4 not enabled. -/
def latched (third : LaneState) (spacing : Timer) : State :=
  withLane (withFront busy fun f => { f with shockLatch := true, spacingTimer := spacing, mode := .slow }) .l3 fun u =>
    { u with settler := { u.settler with state := some third, holdTimer := .running 1500001 } }

theorem witness_ConsumedLatchHoldsLanes :
    ((latched .held .stopped).startUp.node = .run ∧ (latched .held .stopped).frontEnd.roundTimer = .running 0 ∧
        (latched .held .stopped).frontEnd.shockLatch = true) ∧
      (laneEnabled (latched .held .stopped).running .l1 = true ∧
        ((latched .held .stopped).lane .l1).settler.state = some .stable) ∧
      (laneEnabled (latched .held .stopped).running .l3 = true ∧
        ((latched .held .stopped).lane .l3).settler.state = some .held) ∧
      laneEnabled (latched .held .stopped).running .l2 = false ∧
      ((latched .fault .stopped).lane .l3).settler.state = some .fault ∧
      ((latched .moving .stopped).lane .l3).settler.state = some .moving ∧
      ((latched .settling .stopped).lane .l3).settler.state = some .settling ∧
      (latched .held .stopped).frontEnd.spacingTimer = .stopped ∧
      (latched .held (.running 0)).frontEnd.spacingTimer = .running 0 := by decide

theorem witness_ConfiguringLatchFailsCapture :
    (∀ s, s = withFront (capturing 31 .captureSpan) (fun f => { f with shockLatch := true }) →
      s.startUp.node = .configuring ∧ s.frontEnd.roundTimer = .running 0 ∧ s.frontEnd.shockLatch = true ∧
        s.port.capture.isSome = true) ∧
      (∀ s, s = withFront session (fun f => { f with shockLatch := true }) →
        s.startUp.node = .configuring ∧ s.frontEnd.roundTimer = .running 0 ∧ s.frontEnd.shockLatch = true ∧
        s.port.capture = none) := by
  constructor <;> (rintro s rfl; decide)

/-- An excitation check due. -/
def checking (hold : Bool) (bad good : Nat) (vdd : VddLevel) : State :=
  { withFront busy fun f =>
      { f with checkDue := true, supplyHold := hold, badRun := bad, goodRun := good, conversionsDue := [.l1, .l3] } with
    pins := { busy.pins with vdd := vdd } }

/-- The clauses' ends: 0.7125 and 0.7875 of the supply, and just outside. -/
theorem witness_ExcitationCheckOutsideHold :
    (checking true 0 0 .atHold).frontEnd.checkDue = true ∧ (checking true 0 0 .atHold).frontEnd.supplyHold = true ∧
      (checking false 0 0 .atHold).frontEnd.supplyHold = false ∧
      (7125 * ((10000 : Nat) : Int) ≤ 10000 * 7125 ∧ (10000 * 7125 : Int) ≤ 7875 * ((10000 : Nat) : Int)) ∧
      (7125 * ((10000 : Nat) : Int) ≤ 10000 * 7875 ∧ (10000 * 7875 : Int) ≤ 7875 * ((10000 : Nat) : Int)) ∧
      (10000 * 7124 : Int) < 7125 * ((10000 : Nat) : Int) ∧ 7875 * ((10000 : Nat) : Int) < 10000 * 7876 ∧
      (checking false 0 0 .atHold).frontEnd.badRun = 0 ∧ 1 ≤ (checking false 1 0 .atHold).frontEnd.badRun := by decide

theorem witness_ExcitationCheckInHold :
    ((checking true 0 0 .atHold).frontEnd.checkDue = true ∧ (checking true 0 0 .atHold).frontEnd.supplyHold = true ∧
      excitationOf (.fraction 3 4) = .good ∧ (checking true 0 0 .atHold).pins.vdd = .atHold ∧
      (checking true 0 0 .atHold).frontEnd.goodRun = 0) ∧
      ((checking true 0 1 .atHold).frontEnd.checkDue = true ∧ (checking true 0 1 .atHold).frontEnd.supplyHold = true ∧
        (checking true 0 1 .atHold).pins.vdd = .atHold ∧ 1 ≤ (checking true 0 1 .atHold).frontEnd.goodRun) ∧
      (excitationOf .saturated = .bad ∧ (checking true 0 1 .belowHold).frontEnd.supplyHold = true ∧
        (checking true 0 1 .belowHold).pins.vdd ≠ .atHold) := by decide

/-- The dip filter at its expiry. -/
def dipped (s : State) (hold : Bool) : State :=
  withFront s fun f => { f with dipFilter := .running 0, supplyHold := hold }

/-- A capture of lane 2 before its next sample, when that is its turn, with the dip filter at its expiry. -/
def lateCapture (samples : Nat) (op : Operation) (due : Bool) : State :=
  dipped (withLane (withFront (capturing samples op) fun f =>
    { f with checkDue := false, conversionsDue := if due then [.l2] else [.l1, .l2] }) .l2 fun u =>
      { u with warmUp := 0 }) false

theorem witness_SupplyHoldBegins :
    ((dipped busy true).frontEnd.dipFilter = .running 0 ∧ (dipped busy true).frontEnd.supplyHold = true) ∧
      ((dipped busy false).frontEnd.dipFilter = .running 0 ∧ (dipped busy false).frontEnd.supplyHold = false ∧
        (dipped busy false).startUp.node = .run ∧
        laneEnabled (dipped busy false).running .l1 = true ∧
        ((dipped busy false).lane .l1).settler.state = some .stable ∧
        laneEnabled (dipped busy false).running .l2 = false) ∧
      ((dipped (latched .held .stopped) false).frontEnd.dipFilter = .running 0 ∧
        ((dipped (latched .held .stopped) false).lane .l3).settler.state = some .held ∧
        ((dipped (latched .fault .stopped) false).lane .l3).settler.state = some .fault) ∧
      ((dipped session false).startUp.node = .configuring ∧ (dipped session false).port.operation = .none) ∧
      (∀ due, (lateCapture 31 .captureZero due).frontEnd.dipFilter = .running 0 ∧
        (lateCapture 31 .captureZero due).startUp.node = .configuring ∧
        (lateCapture 31 .captureZero due).port.operation = .captureZero ∧
        (lateCapture 31 .captureZero due).port.capture.isSome = true ∧
        ((lateCapture 31 .captureZero due).lane .l2).warmUp = 0 ∧
        (lateCapture 31 .captureZero due).conversionDue .l2 = due) ∧
      ((dipped storing false).frontEnd.dipFilter = .running 0 ∧ (dipped storing false).port.operation = .store ∧
        (dipped storing false).startUp.storePhase = .writing ∧
        (dipped (storingIn .markerCleared) false).port.operation = .store ∧
        (dipped (storingIn .markerCleared) false).startUp.storePhase = .markerCleared) := by decide

theorem witness_DipFilterTimesDips :
    (busy.startUp.node ≠ .starting ∧ busy.pins.vdd = .atHold ∧ busy.frontEnd.dipFilter = .stopped ∧
        busy.frontEnd.dipFilter ≠ .running 0) ∧
      ((dipped busy false).pins.vdd = .atHold ∧ (dipped busy false).frontEnd.dipFilter = .running 0) ∧
      (checking false 0 0 .belowHold).pins.vdd ≠ .atHold ∧
      ((dipped busy true).frontEnd.dipFilter = .running 0 ∧ (dipped busy true).frontEnd.supplyHold = true) ∧
      (dipped busy false).frontEnd.supplyHold = false := by decide

/-- A state at a shock level, with a comparator output, the lanes of its sum, and the scan timers. -/
def compared (level : Nat) (active : Bool) (lanes : List Lane) (timer : Timer) : State :=
  { withFront busy fun f =>
      { f with comparatorActive := active, roundLanes := lanes, quietTimer := timer, spacingTimer := timer, mode := .slow } with
    running := { bay with shockLevel := level } }

/-- Each level's threshold in force, in either node state; rates at it and just above, rising and falling; the output inactive
and active; lanes in the sum and none; the timers due and not. -/
theorem witness_ComparatorAndScanTimers :
    (∀ level active lanes timer, (compared level active lanes timer).startUp.node = .run ∧
      (compared level active lanes timer).running.shockLevel = level ∧
      (compared level active lanes timer).frontEnd.comparatorActive = active ∧
      (compared level active lanes timer).frontEnd.roundLanes = lanes ∧
      (compared level active lanes timer).frontEnd.quietTimer = timer ∧
      (compared level active lanes timer).frontEnd.spacingTimer = timer) ∧
      (session.startUp.node ≠ .run ∧ session.working.shockLevel = 2) ∧
      (25 * 10000 < 10000 * (26 : Int).natAbs ∧ 200 * 10000 < 10000 * (-201 : Int).natAbs ∧
        10000 * (25 : Int).natAbs ≤ 25 * 10000 ∧ 10000 * (-200 : Int).natAbs ≤ 200 * 10000 ∧
        [Lane.l1] ≠ [] ∧ (Timer.running 0 : Timer) ≠ .running 20 ∧ (Timer.stopped : Timer) ≠ .running 0) :=
  ⟨fun _ _ _ _ => ⟨rfl, rfl, rfl, rfl, rfl, rfl⟩, by decide⟩

/-- Lane 3 HELD at the end of its hold. -/
def heldLane (wait : Bool) : State :=
  withLane busy .l3 fun u =>
    { u with settler := { u.settler with state := some .held, holdTimer := .running 0, supplyWait := wait } }

theorem witness_HoldTimerExpiryReleasesLane :
    (∀ wait, (heldLane wait).startUp.node = .run ∧ laneEnabled (heldLane wait).running .l3 = true ∧
      ((heldLane wait).lane .l3).settler.holdTimer = .running 0 ∧
      ((heldLane wait).lane .l3).settler.state = some .held) ∧
      ((heldLane true).lane .l3).settler.supplyWait = true ∧ ((heldLane false).lane .l3).settler.supplyWait = false ∧
      ((latched .held .stopped).lane .l3).settler.holdTimer ≠ .running 0 := by
  decide

theorem converting_converts (s : State) (l : Lane) : Converts (converting s l) l := ⟨rfl, rfl, rfl⟩

/-- Both ends of the converter's range, both ends of the gram range and the values beyond them. -/
theorem witness_GramSampleRule :
    Converts (converting busy .l1) .l1 ∧ Converts (converting session .l1) .l1 ∧
      (session.startUp.node = .configuring ∧ RestsOutsideRun session) ∧
      (BitVec.ofInt 24 8388607).toInt = 8388607 ∧ (BitVec.ofInt 24 (-8388608)).toInt = -8388608 ∧
      LaneRecord.default.spanCaptured = false ∧ lane1.spanCaptured = true ∧
      roundDiv ((8388606 - 0) * (65535 : Nat)) 65536 - 0 > 99999 ∧ roundDiv ((-8388607 - 0) * (65535 : Nat)) 65536 < -99999 ∧
      (sampleOf { lane1 with span := 65535 } 0 (BitVec.ofInt 24 100001)).grams = some 99999 ∧
      (sampleOf { lane1 with span := 65535 } 0 (BitVec.ofInt 24 100002)).grams = none ∧
      (sampleOf { lane1 with span := 65535 } 0 (BitVec.ofInt 24 (-100001))).grams = some (-99999) ∧
      (sampleOf { lane1 with span := 65535 } 0 (BitVec.ofInt 24 (-100002))).cls = .under :=
  ⟨converting_converts _ _, converting_converts _ _, ⟨rfl, fun _ => session_rests⟩, by decide +kernel⟩

/-- A lane with warm-up samples to go. -/
def warming (count : Nat) : State := withLane (converting busy .l1) .l1 fun u => { u with warmUp := count }

/-- Lane 1 one sample before an entry into FAULT, or before an exit from it, its slot uncertain or not. -/
def faulting (fault uncertain : Bool) : State :=
  withSlot (withLane (warming 0) .l1 fun u =>
    { u with
      settler := { u.settler with
        state := if fault = true then some .moving else some .fault, outOfRangeRun := 2, inRangeRun := 15 }
      notice := { u.notice with fault := !fault } }) 0 fun u => { u with uncertain := uncertain }

/-- The third OVER sample in a row, and the sixteenth IN-RANGE one. -/
theorem witness_SampleEventHandsOn_fault (fault uncertain : Bool) :
    Converts (faulting fault uncertain) .l1 ∧ ((faulting fault uncertain).lane .l1).warmUp = 0 ∧
      (faulting fault uncertain).startUp.node = .run ∧
      (((faulting fault uncertain).lane .l1).settler.state = some .fault ↔ fault = false) ∧
      ((faulting fault uncertain).slot 0).uncertain = uncertain ∧
      articleSlot (faulting fault uncertain).running (articleOfLane (faulting fault uncertain).running .l1) = some 0 ∧
      ∃ code r, readingOf (sampleOf (laneOf (faulting fault uncertain).running .l1)
          (((faulting fault uncertain).lane .l1).counting.arithmeticOffset false) code) = some r ∧
        (((faulting fault uncertain).lane .l1).settler.take lane1 r).settles lane1 = false ∧
        ((((faulting fault uncertain).lane .l1).settler.take lane1 r).state = some .fault ↔ fault = true) := by
  refine ⟨⟨rfl, rfl, rfl⟩, rfl, rfl, ?_, ?_, ?_, if fault = true then 0x7FFFFF else codeOf 23500,
    if fault = true then .beyond else .grams 23500, ?_⟩ <;> revert fault uncertain <;> decide +kernel

theorem witness_SampleEventHandsOn :
    busy.conversionDue .l1 = false ∧ (Converts (warming 1) .l1 ∧ 0 < ((warming 1).lane .l1).warmUp) ∧
      (Converts (withLane (converting session .l1) .l1 fun u => { u with warmUp := 0 }) .l1 ∧
        session.startUp.node = .configuring ∧ session.port.capture.map Capture.lane ≠ some .l1) ∧
      (Converts (warming 0) .l1 ∧ ((warming 0).lane .l1).warmUp = 0 ∧ (warming 0).startUp.node = .run ∧
        (∀ first, readingOf (sampleOf (laneOf (warming 0).running .l1)
          (((warming 0).lane .l1).counting.arithmeticOffset first) (codeOf 23900)) = some (.grams 23900)) ∧
        (((warming 0).lane .l1).settler.take (laneOf (warming 0).running .l1) (.grams 23900)).settles
          (laneOf (warming 0).running .l1) = false ∧
        (((warming 0).lane .l1).settler.take (laneOf (warming 0).running .l1) (.grams 23900)).state ≠ some .fault ∧
        ((warming 0).lane .l1).settler.state = some .stable) :=
  ⟨by decide, ⟨⟨rfl, rfl, rfl⟩, by decide⟩, ⟨⟨rfl, rfl, rfl⟩, by decide⟩, ⟨rfl, rfl, rfl⟩, by decide +kernel⟩

/-! ## Witnesses: lane settler and count unit -/

/-- A settler in a state, with a full window, at the last value of a run. -/
def settlerIn (st : LaneState) (motion out inside : Nat) : Settler :=
  { Settler.runEntry with
    state := some st, window := List.replicate 8 100, reference := 100, motionRun := motion, outOfRangeRun := out,
    inRangeRun := inside }

/-- A spread of B is narrow and one of B + 1 is not; M from W is not motion and M + 1 is. -/
theorem witness_SettlerSampleTable :
    (∀ st motion out inside, (settlerIn st motion out inside).state = some st) ∧
      Close 30 (joined (settlerIn .moving 0 0 0).window 130) ∧ ¬ Close 30 (joined (settlerIn .settling 0 0 0).window 131) ∧
      (500 - (settlerIn .stable 0 0 0).reference).natAbs ≤ lane1.motion ∧
      lane1.motion < (501 - (settlerIn .stable 0 0 0).reference).natAbs ∧
      (settlerIn .stable 0 0 0).motionRun = 0 ∧ (settlerIn .stable 1 0 0).motionRun = 1 ∧
      (settlerIn .held 0 1 0).outOfRangeRun < 2 ∧ (settlerIn .stable 1 1 0).outOfRangeRun < 2 ∧
      (settlerIn .stable 0 2 0).outOfRangeRun = 2 ∧ (settlerIn .fault 0 0 14).inRangeRun < 15 ∧
      (settlerIn .fault 0 0 15).inRangeRun = 15 :=
  ⟨fun _ _ _ _ => rfl, by unfold Close; decide, by unfold Close; decide, by decide⟩

/-- E at the two ends of the counts: below 0, and 1,999 halves of U, where the quotient rounds to 1,000. -/
theorem witness_SettleFiguresOfALane :
    LaneRanged lane1 ∧ lane1.allowance ≠ 0 ∧ LaneRanged { lane1 with allowance := 0 } ∧ (-1 : Int) < 0 ∧
      1999 * (lane1.unitWeight : Int) ≤ 2 * (2348825 - 0) ∧
      laneOf { bay with lanes := bay.lanes.set 1 lane1 } .l2 = lane1 :=
  ⟨lane1_ranged, by decide, ⟨by decide, by decide, by decide, by decide, by decide, by decide, by decide, by decide⟩,
    by decide +kernel⟩

theorem beforeSettle_settles (g reference : Int) (known : Bool) (foreign : Option ForeignRecord) (first : Bool)
    (hs : sampleOf lane1 0 (codeOf g) = { raw := (codeOf g).toInt, cls := .inRange, grams := some g }) :
    SettlesWith (beforeSettle g reference known foreign) .l1 (codeOf g) first g (List.replicate 8 g) where
  run := rfl
  converts := ⟨rfl, rfl, rfl⟩
  warm := rfl
  sample := by cases first <;> exact hs
  settling := rfl
  counter := rfl
  window := rfl
  narrow := ⟨rfl, fun x hx y hy => by
    rw [List.eq_of_mem_replicate hx, List.eq_of_mem_replicate hy, Int.sub_self]; exact Int.natCast_nonneg _⟩

/-- The settle event of a lane that waits for one, in a state which differs in its lists. -/
theorem beforeSettle_settles_lists (g reference : Int) (known : Bool) (foreign : Option ForeignRecord) (first : Bool)
    (p : List PendingOut) (h : List HeardOffer)
    (hs : sampleOf lane1 0 (codeOf g) = { raw := (codeOf g).toInt, cls := .inRange, grams := some g }) :
    SettlesWith (withLists (beforeSettle g reference known foreign) p h) .l1 (codeOf g) first g (List.replicate 8 g) :=
  have k := beforeSettle_settles g reference known foreign first hs
  ⟨k.run, ⟨rfl, rfl, rfl⟩, k.warm, k.sample, k.settling, k.counter, k.window, k.narrow⟩

/-- First settles: 60 g, the tracking bound; 61 g, beyond it; 24,600 g, rejected. -/
theorem witness_FirstSettleCountsWithoutMovement :
    (SettlesWith (beforeSettle 60 0 false none) .l1 (codeOf 60) false 60 (List.replicate 8 60) ∧
      ((beforeSettle 60 0 false none).lane .l1).settler.known = false ∧
      ((beforeSettle 60 0 false none).lane .l1).foreign = none ∧ (figuresOf lane1 60 0).accepted = true ∧
      (figuresOf lane1 60 0).n = 0) ∧
      (SettlesWith (beforeSettle 61 0 false none) .l1 (codeOf 61) true 61 (List.replicate 8 61) ∧
        ((beforeSettle 61 0 false none).lane .l1).settler.known = false ∧ (figuresOf lane1 61 0).accepted = false) ∧
      (SettlesWith (beforeSettle 24600 0 false none) .l1 (codeOf 24600) false 24600 (List.replicate 8 24600) ∧
        ((beforeSettle 24600 0 false none).lane .l1).settler.known = false ∧
        (figuresOf lane1 24600 0).accepted = false) :=
  ⟨⟨beforeSettle_settles _ _ _ _ _ (by decide +kernel), rfl, rfl, by decide +kernel⟩,
    ⟨beforeSettle_settles _ _ _ _ _ (by decide +kernel), rfl, by decide +kernel⟩,
    beforeSettle_settles _ _ _ _ _ (by decide +kernel), rfl, by decide +kernel⟩

/-- A foreign record of 1,100 g. -/
def record : ForeignRecord := { article := 6100412, grams := 1100, origin := 31, tag := 0, tol := 40 }

/-- Known settles of a lane that held 10 cases: the same count; one case less with a list that is full, of its own article and
of another; one case more; a rejected settle not above W; a rejected rise that no entry fits, of none and of the same article;
a rise with a foreign record, which is left out of the count. -/
theorem witness_KnownSettleCountsAndMoves :
    ListsSound (beforeSettle 23500 23500 true none) ∧
      (SettlesWith (beforeSettle 23500 23500 true none) .l1 (codeOf 23500) false 23500 (List.replicate 8 23500) ∧
        ((beforeSettle 23500 23500 true none).lane .l1).settler.known = true ∧
        filteredWeight (List.replicate 8 23500) = 23500 ∧
        (figuresOf lane1 23500 0).accepted = true ∧
        (figuresOf lane1 23500 0).n = ((beforeSettle 23500 23500 true none).lane .l1).counting.count) ∧
      (∀ article, article = 6100412 ∨ article = 4017233 →
        SettlesWith (withLists (beforeSettle 21150 23500 true none) (fullOut.map fun e => { e with article := article }) [])
          .l1 (codeOf 21150) false 21150 (List.replicate 8 21150) ∧
        ListsSound (withLists (beforeSettle 21150 23500 true none)
          (fullOut.map fun e => { e with article := article }) []) ∧
        (figuresOf lane1 21150 0).accepted = true ∧ (figuresOf lane1 21150 0).n = 9) ∧
      (SettlesWith (beforeSettle 25850 23500 true none) .l1 (codeOf 25850) false 25850 (List.replicate 8 25850) ∧
        (figuresOf lane1 25850 0).accepted = true ∧ (figuresOf lane1 25850 0).n = 11) ∧
      (SettlesWith (beforeSettle 22400 22400 true none) .l1 (codeOf 22400) false 22400 (List.replicate 8 22400) ∧
        (figuresOf lane1 22400 0).accepted = false ∧ filteredWeight (List.replicate 8 22400) ≤ 22400) ∧
      (∀ p, p = [] ∨ p = [away 0 4017233 .sent] →
        SettlesWith (withLists (beforeSettle 24600 23500 true none) p []) .l1 (codeOf 24600) false 24600
          (List.replicate 8 24600) ∧
        (figuresOf lane1 24600 0).accepted = false ∧
        ∀ x ∈ p, ¬ (x.article ≠ articleOfLane bay .l1 ∧ ((24600 - 23500 : Int) - (x.grams : Int)).natAbs ≤ x.tol + 60)) ∧
      (SettlesWith (beforeSettle 24600 23500 true (some record)) .l1 (codeOf 24600) false 24600 (List.replicate 8 24600) ∧
        ((beforeSettle 24600 23500 true (some record)).lane .l1).foreign = some record ∧
        ¬ ((24600 - 23500 : Int) < 0) ∧ (figuresOf lane1 24600 1100).accepted = true) := by
  refine ⟨⟨by decide, by decide, by decide, by decide, by decide⟩,
    ⟨beforeSettle_settles _ _ _ _ _ (by decide +kernel), rfl, by decide +kernel⟩,
    fun article ha => ⟨beforeSettle_settles_lists _ _ _ _ _ _ _ (by decide +kernel), ?_, by decide +kernel⟩,
    ⟨beforeSettle_settles _ _ _ _ _ (by decide +kernel), by decide +kernel⟩,
    ⟨beforeSettle_settles _ _ _ _ _ (by decide +kernel), by decide +kernel⟩,
    fun p hp => ⟨beforeSettle_settles_lists _ _ _ _ _ _ _ (by decide +kernel), by decide +kernel, ?_⟩,
    beforeSettle_settles _ _ _ _ _ (by decide +kernel), by decide +kernel⟩
  · rcases ha with rfl | rfl <;>
      exact ⟨by decide +kernel, by decide +kernel, by decide +kernel, by decide +kernel, by decide +kernel⟩
  · rcases hp with rfl | rfl <;> decide +kernel

/-- A rise of 1,100 g, which T0 = 60 and a tolerance of 40 just allow for 1,000 g, over 10 cases: fitted by an own entry of each
status, of another lane and of this one, and by a heard offer, with room for a CLAIM and without; and its fall from a lane with
that foreign record. -/
theorem witness_ForeignItemSetsAndClearsRecord :
    (∀ status lane e s, e = { away 0 6100412 status with lane := lane } →
      s = withLists (beforeSettle 24600 23500 true none) [e] [] →
      SettlesWith s .l1 (codeOf 24600) false 24600 (List.replicate 8 24600) ∧ (s.lane .l1).settler.known = true ∧
        (s.lane .l1).foreign = none ∧ (figuresOf (laneOf s.running .l1) 24600 0).accepted = false ∧
        filteredWeight (List.replicate 8 24600) - (s.lane .l1).settler.reference = 1100 ∧
        s.matcher.pendingOut.find? (fun e => decide (e.article ≠ articleOfLane s.running .l1) &&
          decide (((1100 : Int) - (e.grams : Int)).natAbs ≤ e.tol + (laneOf s.running .l1).baseTol)) = some e) ∧
      (claimsHeld (beforeSettle 24600 23500 true none).queue.requests < 8 ∧
        8 ≤ claimsHeld (withRequests (beforeSettle 24600 23500 true none) eightClaims).queue.requests) ∧
      (∀ s, s = withLists (beforeSettle 24600 23500 true none) [] [offered 0 6100412 .none none none] →
        (∀ x ∈ s.matcher.pendingOut, ¬ (x.article ≠ articleOfLane s.running .l1 ∧
          ((1100 : Int) - (x.grams : Int)).natAbs ≤ x.tol + (laneOf s.running .l1).baseTol)) ∧
        s.matcher.heard.find? (fun e => decide (e.claimStatus = .none) &&
          decide (e.article ≠ articleOfLane s.running .l1) &&
          decide (((1100 : Int) - (e.grams : Int)).natAbs ≤ e.tol + (laneOf s.running .l1).baseTol)) =
            some (offered 0 6100412 .none none none)) ∧
      (∀ r : ForeignRecord, r = record →
        SettlesWith (beforeSettle 23600 24600 true (some r)) .l1 (codeOf 23600) false 23600 (List.replicate 8 23600) ∧
          ((beforeSettle 23600 24600 true (some r)).lane .l1).foreign = some r ∧
          ((-1000 : Int) + r.grams).natAbs = r.tol + lane1.baseTol) := by
  refine ⟨?_, by decide +kernel, ?_, ?_⟩
  · rintro status lane e s rfl rfl
    exact ⟨beforeSettle_settles_lists _ _ _ _ _ _ _ (by decide +kernel), by cases status <;> cases lane <;> decide +kernel⟩
  · rintro s rfl
    decide +kernel
  · rintro r rfl
    exact ⟨beforeSettle_settles _ _ _ _ _ (by decide +kernel), by decide +kernel⟩

theorem witness_CountUnitChangesOnlyAtItsOwnSamples :
    (∃ t, exec (.sampleEvent .l2 0 false) busy = .next t ∧
        ∀ code first, Instr.sampleEvent .l2 0 false ≠ .sampleEvent .l1 code first) ∧
      ∃ t, exec .pin busy = .next t ∧ ∀ code first, Instr.pin ≠ .sampleEvent .l1 code first :=
  ⟨⟨_, rfl, by intro code first h; cases h⟩, _, rfl, by intro code first h; cases h⟩

/-! ## Witnesses: movement matcher -/

/-- Eight entries of the tags from the counter on: the ninth value is the fresh one. -/
theorem witness_FreshTagChosen :
    (withLists busy fullOut []).matcher.pendingOut.length ≤ 8 ∧
      (∀ j, j < 8 → (withLists busy fullOut []).matcher.tagCounter + BitVec.ofNat 8 j ∈
        (withLists busy fullOut []).matcher.pendingOut.map PendingOut.tag) := by decide +kernel

/-- The article of the bay's lanes in one own entry; in one heard offer; in neither. -/
theorem witness_MovementsReachTheMatcher :
    QueueSound crowded ∧ 0 < 1 ∧ crowded.matcher.pendingOut.tail.length = 7 ∧
      ((movementOf busy.running .l1 1).article = 4017233 ∧
        (withLists busy [away 0 4017233 .queued] []).matcher.pendingOut.find?
          (fun e => decide (e.article = 4017233) && decide (e.count = 1)) = some (away 0 4017233 .queued) ∧
        (withLists busy [away 0 4017233 .sent] []).claimRoom = true) ∧
      ((∀ e ∈ (withLists busy [away 0 6100412 .sent] []).matcher.pendingOut, ¬ (e.article = 4017233 ∧ e.count = 1)) ∧
        (withLists busy [] [offered 0 4017233 .none none none]).matcher.heard.find?
          (fun e => decide (e.article = 4017233) && decide (e.count = 1) && decide (e.claimStatus = .none)) =
            some (offered 0 4017233 .none none none) ∧
        claimsHeld eightClaims = 8 ∧ (withRequests busy eightClaims).claimRoom = false ∧
        (withRequests busy (eightClaims.drop 1)).claimRoom = true) :=
  ⟨crowded_sound, by decide +kernel⟩

/-- Windows that have ended and windows that run, of an entry of each kind, and an empty list. -/
theorem witness_OfferEntriesExpire :
    (∀ status, (withLists busy [{ away 3 4017233 status with remaining := 0 }] []).matcher.pendingOut.find?
      (fun e => decide (e.tag = 3)) = some { away 3 4017233 status with remaining := 0 }) ∧
      (crowded.matcher.pendingOut.find? (fun e => decide (e.tag = 3)) = some (away 3 6100412 .queued) ∧
        (away 3 6100412 .queued).remaining ≠ 0) ∧
      (∀ e, e = offered 1 4017233 .queued (some .relocation) (some .l1) ∨ e = offered 1 6100412 .queued (some .foreign) none ∨
          e = offered 1 6100412 .none none none →
        (withLists busy [] [{ e with remaining := 0 }]).matcher.heard.find?
          (fun e => decide (e.station = 31) && decide (e.tag = 1)) = some { e with remaining := 0 } ∧
        (withLists busy [] [e]).matcher.heard.find? (fun e => decide (e.station = 31) && decide (e.tag = 1)) = some e ∧
        e.remaining ≠ 0) ∧
      (∀ e ∈ busy.matcher.pendingOut, e.tag ≠ 3) ∧ (∀ e ∈ busy.matcher.heard, ¬ (e.station = 31 ∧ e.tag = 1)) := by
  refine ⟨fun _ => rfl, by decide +kernel, ?_, by decide, by decide⟩
  rintro e (rfl | rfl | rfl) <;> decide +kernel

/-- A receiver that searches can complete any characters. -/
theorem assembles_of_searching (s : State) (chars : List Byte) (hs : s.link.state ≠ .off) (hf : s.link.flight = none)
    (hr : s.link.receiver = .searching) : Assembles s chars := ⟨hs, hf, .inl hr⟩

/-- A frame of another station at a node of the bay whose link is ACTIVE and SEARCHING. -/
theorem peer_of (s : State) (station : Byte) (p : Payload) (hs : s.link.state ≠ .off) (hf : s.link.flight = none)
    (hr : s.link.receiver = .searching) (hn : s.running.station = 15)
    (hv : 1 ≤ station.toNat ∧ station.toNat ≤ 120 ∧ station ≠ 15) : PeerFrame s { station := station, payload := p } :=
  ⟨assembles_of_searching s _ hs hf hr, ⟨hv.1, hv.2.1⟩, by unfold State.ownStation; rw [hn]; exact hv.2.2⟩

/-- The ends of the station numbers. -/
theorem peer_frames (p : Payload) : PeerFrame busy { station := 1, payload := p } ∧
    PeerFrame busy { station := 120, payload := p } ∧ PeerFrame busy { station := 31, payload := p } :=
  ⟨peer_of _ _ _ (by decide) rfl rfl rfl (by decide), peer_of _ _ _ (by decide) rfl rfl rfl (by decide),
    peer_of _ _ _ (by decide) rfl rfl rfl (by decide)⟩

/-- A receiver that has the first three characters of a frame and some bits of the fourth. -/
theorem peer_of_beginning (p : Payload) (n : Nat) :
    PeerFrame (withLink busy fun k => { k with
      receiver := .inCharacter, buffer := (frameChars { station := 31, payload := p }).take 3
      bits := (((frameChars { station := 31, payload := p }).drop 3).flatMap charBits).take n })
      { station := 31, payload := p } :=
  ⟨⟨(by decide : busy.link.state ≠ .off), rfl, .inr ⟨.inl rfl, by
      conv => rhs; rw [← List.take_append_drop 3 (frameChars { station := 31, payload := p }), List.flatMap_append]
      exact (List.prefix_append_right_inj _).mpr (List.take_prefix _ _), by
      have h : 5 ≤ (frameChars { station := 31, payload := p }).length := by
        simp [frameChars, coveredChars, u16]
      simp only [withLink, List.length_take]
      omega⟩⟩, (by decide : 1 ≤ (31 : Byte).toNat ∧ (31 : Byte).toNat ≤ 120),
    (by decide : (31 : Byte) ≠ busy.ownStation)⟩

/-- The node's own frame, sent to its end, whose reception is to come. -/
def ownSent (s : State) (p : Payload) : State :=
  withLink s fun k => { k with ownDelivery := some { station := 15, payload := p } }

/-- The same frame sent to its end, its transmission end still to come. -/
def ownEnding (s : State) (p : Payload) : State :=
  withLink s fun k => { k with
    flight := some (flyingAt (10 * (frameChars { station := 15, payload := p }).length) .shock p) }

/-- The node's own frame is delivered after its transmission end, or before it. -/
theorem own_delivers (s : State) (p : Payload) (hs : s.link.state ≠ .off) (hf : s.link.flight = none)
    (hn : s.running.station = 15) :
    (∃ link, OwnDelivery (ownSent s p) { station := 15, payload := p } link) ∧
      ∃ link, OwnDelivery (ownEnding s p) { station := 15, payload := p } link := by
  have h : (15 : Byte) = BitVec.ofNat 8 s.running.station := by rw [hn]; rfl
  exact ⟨⟨_, .after hs hf rfl h⟩, _, .before (flyingAt _ .shock p) hs rfl rfl rfl rfl h⟩

/-- Senders just outside the station numbers. -/
theorem outside_frames (p : Payload) :
    OutsideFrame busy { station := 0, payload := p } ∧ OutsideFrame busy { station := 121, payload := p } :=
  ⟨⟨assembles_of_searching _ _ (by decide) rfl rfl, .inl rfl, (by decide : (0 : Byte) ≠ busy.ownStation)⟩,
    ⟨assembles_of_searching _ _ (by decide) rfl rfl, .inr (by decide : 120 < (121 : Byte).toNat),
      (by decide : (121 : Byte) ≠ busy.ownStation)⟩⟩

theorem witness_OfferReceptionEntersList :
    (∀ p, PeerFrame crowded { station := 31, payload := p }) ∧ ListsSound crowded ∧ crowded.matcher.heard.length = 8 ∧
      ((0 : Article) = 0 ∧ (1 : Article) ≠ 0 ∧ (1 : BitVec 16) ≠ 0 ∧ (255 : Byte) ≠ 0) ∧
      (∀ p, OutsideFrame busy { station := 0, payload := p } ∧ OutsideFrame busy { station := 121, payload := p }) ∧
      ∀ p, (∃ link, OwnDelivery (ownSent busy p) { station := 15, payload := p } link) ∧
        ∃ link, OwnDelivery (ownEnding busy p) { station := 15, payload := p } link :=
  ⟨fun _ => peer_of _ _ _ (by decide) rfl rfl rfl (by decide), crowded_lists, by decide +kernel, by decide +kernel,
    outside_frames, fun p => own_delivers _ p (by decide) rfl rfl⟩

theorem witness_ClaimReceptionDecidesEntries :
    (∀ n ∈ [(1 : Byte), 15, 31, 120], ∀ type ∈ [(1 : Byte), 2], ClaimHanded n type) ∧
      (¬ ClaimHanded 0 1 ∧ ¬ ClaimHanded 121 2 ∧ ¬ ClaimHanded 31 0 ∧ ¬ ClaimHanded 31 3) ∧
      (∀ p, OutsideFrame busy { station := 0, payload := p } ∧ OutsideFrame busy { station := 121, payload := p }) ∧
      (15 : Byte) = (ownSent busy (.claim 15 1 1)).ownStation ∧
      (∃ link, OwnDelivery (ownSent busy (.claim 15 1 1)) { station := 15, payload := .claim 15 1 1 } link) ∧
      (∀ p, PeerFrame crowded { station := 31, payload := p }) ∧
      (15 : Byte) = crowded.ownStation ∧
      crowded.matcher.pendingOut.find? (fun e => decide (e.tag = 3)) = some (away 3 6100412 .queued) ∧
      (∀ e ∈ crowded.matcher.pendingOut, e.tag ≠ 8) ∧ (31 : Byte) ≠ crowded.ownStation ∧
      (withLists busy [] [offered 1 4017233 .queued (some .relocation) (some .l1)]).matcher.heard.find?
        (fun e => decide (e.station = (31 : Byte).toNat) && decide (e.tag = 1)) =
          some (offered 1 4017233 .queued (some .relocation) (some .l1)) ∧
      ((∃ link, OwnDelivery (ownSent busy (.claim 31 1 1)) { station := 15, payload := .claim 31 1 1 } link) ∧
        1 ≤ (15 : Byte).toNat ∧ (15 : Byte).toNat ≤ 120 ∧ (31 : Byte) ≠ (ownSent busy (.claim 31 1 1)).ownStation) := by
  refine ⟨by unfold ClaimHanded; decide, by unfold ClaimHanded; decide, outside_frames, by decide,
    (own_delivers _ _ (by decide) rfl rfl).1, fun _ => peer_of _ _ _ (by decide) rfl rfl rfl (by decide),
    by decide +kernel, by decide +kernel, by decide +kernel, by decide +kernel, by decide +kernel, (own_delivers _ _ (by decide) rfl rfl).1, by decide +kernel⟩

theorem witness_PresenceRestartFlagPurges :
    (∀ b h, PeerFrame carried { station := 31, payload := .presence b h } ∧
      OutsideFrame busy { station := 0, payload := .presence b h } ∧
      ∃ link, OwnDelivery (ownSent busy (.presence b h)) { station := 15, payload := .presence b h } link) ∧
      BitVec.getLsbD (128 : Byte) 7 = true ∧ BitVec.getLsbD (127 : Byte) 7 = false ∧
      (slotClass carried.running 0 = .article ∧ (carried.slot 0).ready = true) :=
  ⟨fun _ _ => ⟨peer_of _ _ _ (by decide) rfl rfl rfl (by decide), (outside_frames _).1,
      (own_delivers _ _ (by decide) rfl rfl).1⟩, by decide +kernel⟩

/-! ## Witnesses: stock view -/

/-- A FRESH and a STALE entry at 35 s and at 300 s, and one just below each. -/
theorem witness_CarrierEntriesAge :
    ∀ band age, age ∈ [34999980, 35000000, 299999980, 300000000] →
      (withCarriers busy (some { carrier 31 6 band false with age := age }) none).carriers[(0 : Fin 32)] =
        some { carrier 31 6 band false with age := age } := by
  intro band age _
  rw [carriers_get]
  rfl

theorem carried_article : articleSlot carried.running (4017233 : Article).toNat = some 0 := by decide +kernel

/-- A full table of one station's entries: eight slots are too few for 32 places, so four stations fill it. -/
def fullTable (band : Band) : State :=
  { busy with
    carriers := Vector.ofFn fun p : Fin 32 =>
      some { carrier (20 + p.val / 8) 4 band false with slot := ⟨p.val % 8, Nat.mod_lt _ (by decide)⟩ } }

theorem fullTable_get (band : Band) (p : Fin 32) : (fullTable band).carriers[p] =
    some { carrier (20 + p.val / 8) 4 band false with slot := ⟨p.val % 8, Nat.mod_lt _ (by decide)⟩ } := by
  simp [fullTable]

theorem fullTable_sound (band : Band) : CarriersSound (fullTable band) := by
  constructor
  · intro p q e f he hf hst hsl
    rw [fullTable_get] at he hf
    cases he; cases hf
    simp only [carrier, Fin.mk.injEq] at hst hsl
    apply Fin.ext
    omega
  · intro p e he
    rw [fullTable_get] at he
    cases he
    have hp := p.isLt
    have hr : (fullTable band).running.station = 15 := rfl
    simp only [carrier, hr]
    omega
  · intro p q e f he hf _
    rw [fullTable_get] at he hf
    cases he; cases hf
    exact ⟨rfl, rfl⟩

theorem fullTable_entries (band : Band) (p : Fin 32) (e : CarrierEntry) (h : (fullTable band).carriers[p] = some e) :
    e.band = band ∧ e.station ≠ 31 := by
  rw [fullTable_get] at h
  cases h
  have hp := p.isLt
  exact ⟨rfl, by simp only [carrier]; omega⟩

theorem fullTable_peer (band : Band) (p : Payload) : PeerFrame (fullTable band) { station := 31, payload := p } :=
  peer_of _ _ _ (by decide : busy.link.state ≠ .off) rfl rfl rfl (by decide)

/-- The node's own frame and one from outside; the sender's entry there; an empty place; a STALE entry of another station, the table full; a table full of FRESH
entries. -/
theorem witness_StockReceptionPlacesEntry :
    (∀ p, PeerFrame carried { station := 31, payload := p }) ∧ CarriersSound carried ∧
      articleSlot carried.running (4017233 : Article).toNat = some 0 ∧
      articleSlot carried.running (6100412 : Article).toNat = none ∧
      carried.carriers[(0 : Fin 32)] = some (carrier 31 6 .fresh false) ∧ carried.carriers[(2 : Fin 32)] = none ∧
      (∀ band p, PeerFrame (fullTable band) { station := 31, payload := p } ∧ CarriersSound (fullTable band) ∧
        (fullTable band).running = carried.running) ∧
      (∀ (band : Band) (p : Fin 32) (e : CarrierEntry),
        (fullTable band).carriers[p] = some e → e.band = band ∧ e.station ≠ 31) ∧
      ∀ p, OutsideFrame busy { station := 121, payload := p } ∧
        ∃ link, OwnDelivery (ownSent busy p) { station := 15, payload := p } link :=
  ⟨fun _ => peer_of _ _ _ (by decide) rfl rfl rfl (by decide), carried_sound, carried_article, by decide +kernel,
    by decide +kernel, by decide +kernel, fun band p => ⟨fullTable_peer band p, fullTable_sound band, rfl⟩,
    fullTable_entries, fun p => ⟨(outside_frames p).2, (own_delivers _ p (by decide) rfl rfl).1⟩⟩

/-- A STALE entry owes the evaluation of its slot at a frame of its station. -/
theorem owed_of_stale (s : State) (a : Option CarrierEntry) (b : CarrierEntry) (hb : b.band = .stale) :
    OwedByRefresh (withCarriers s a (some b)) b.station b.slot :=
  ⟨1, b, by rw [carriers_get]; rfl, rfl, hb, rfl⟩

/-- Station 14 is the bay's neighbour, with a STALE entry; 12 and 31 are none. -/
def neighbourly (third : LaneState) : State :=
  withLane (withCarriers busy (some (carrier 12 6 .fresh false)) (some (carrier 14 9 .stale false))) .l3 fun u =>
    { u with settler := { u.settler with state := some third, holdTimer := .running 800001 } }

theorem witness_ShockAndNoticeReceptions :
    (∀ p, PeerFrame (neighbourly .held) { station := 14, payload := p }) ∧
      ((14 : Byte).toNat ∈ (neighbourly .held).running.neighbours ∧ OwedByRefresh (neighbourly .held) (14 : Byte).toNat 0 ∧
        laneEnabled (neighbourly .held).running .l1 = true ∧
        ((neighbourly .held).lane .l1).settler.state = some .stable ∧
        ((neighbourly .held).lane .l3).settler.state = some .held ∧
        laneEnabled (neighbourly .held).running .l2 = false ∧
        ((neighbourly .fault).lane .l3).settler.state = some .fault) ∧
      (∀ p, PeerFrame carried { station := 12, payload := p }) ∧ (12 : Byte).toNat ∉ carried.running.neighbours ∧
      (∀ p, ∃ link, OwnDelivery (ownSent busy p) { station := 15, payload := p } link) ∧
      (15 : Byte).toNat ∉ busy.running.neighbours ∧
      (∀ p, OutsideFrame busy { station := 0, payload := p } ∧ OutsideFrame busy { station := 121, payload := p }) ∧
      (0 : Byte).toNat ∉ busy.running.neighbours :=
  ⟨fun _ => peer_of _ _ _ (by decide) rfl rfl rfl (by decide),
    ⟨by decide, owed_of_stale busy _ (carrier 14 9 .stale false) rfl, by decide +kernel⟩,
    fun _ => peer_of _ _ _ (by decide) rfl rfl rfl (by decide), by decide,
    fun p => (own_delivers _ p (by decide) rfl rfl).1, by decide, outside_frames, by decide⟩

/-! ## Witnesses: alert unit -/

/-- Slot 0 in an alert state with a holding, its timers as the state needs them. -/
def alerted (state : AlertState) (holding : Nat) (sent : LastSent) : State :=
  withSlot carried 0 fun u =>
    { u with
      alert := state, holding := holding, lastSent := sent
      takeoverTimer := if state = .following then .running 150000000 else .stopped
      repeatTimer := if state = .raised then .running 60000000 else .stopped
      muteTimer := if state = .muted then .running 60000000 else .stopped }

theorem alerted_timed (state : AlertState) (holding : Nat) (sent : LastSent) : AlertsTimed (alerted state holding sent) := by
  have others : ∀ j : Slot, carried.slot j = SlotUnit.cleared ∨ j = 0 := by decide +kernel
  intro i
  by_cases h : i = 0
  · subst h
    constructor <;> rw [alerted, withSlot, State.setSlot_slot_self] <;> cases state <;> simp [Timer.isRunning]
  · rw [alerted, withSlot, State.setSlot_slot_of_ne _ _ h, (others i).resolve_right h]
    exact ⟨by decide, by decide, by decide⟩

/-- C = RP + H = 30 and 29; C = RP = 20 and 21; each state; deferral by a slot that is not ready; a lead and none. -/
theorem witness_EvaluationFollowsTheTables :
    (∀ state holding sent, AlertsTimed (alerted state holding sent)) ∧ carried.settlingIn = .ended ∧
      State.reset.settlingIn ≠ .ended ∧
      (alerted .raised 15 .raised).combined 0 = 30 ∧ (alerted .normal 14 .none).combined 0 = 29 ∧
      (alerted .normal 6 .none).combined 0 = 21 ∧ (alerted .normal 5 .none).combined 0 = 20 ∧
      (alerted .following 6 .none).leads 0 = true ∧ (alerted .following 7 .none).leads 0 = false ∧
      (alerted .deferred 5 .none).deferred 0 = false ∧ (alerted .deferred 5 .none).leads 0 = true ∧
      (withSlot (alerted .normal 5 .none) 0 fun u => { u with ready := false }).deferred 0 = true ∧
      ((alerted .muted 5 .muted).slot 0).lastSent ≠ .none :=
  ⟨alerted_timed, by decide +kernel⟩

/-- A tie of holdings, which the lower station wins; an entry that is STALE; one that is uncertain. -/
theorem witness_LeadTestComparesKeys :
    CarriersSound carried ∧ carried.carriers[(0 : Fin 32)] = some (carrier 31 6 .fresh false) ∧
      (carrier 31 6 .fresh false).slot = 0 ∧ ((alerted .normal 6 .none).slot 0).holding = 6 ∧
      (alerted .normal 6 .none).leads 0 = true :=
  ⟨carried_sound, by decide +kernel⟩

/-- Every timer of slot 0, of lane 1 and of the schedules at its end. -/
def expiring : State :=
  { withLane (withSlot busy 0 fun u =>
      { u with refreshTimer := .running 0, repeatTimer := .running 0, takeoverTimer := .running 0,
               muteTimer := .running 0 }) .l1 (fun u => { u with notice := { u.notice with timer := .running 0 } }) with
    settlingIn := .running 0
    queue := { busy.queue with presenceTimer := .running 0 } }

theorem witness_SlotAndLaneTimersExpire :
    (expiring.settlingIn = .running 0 ∧ (expiring.slot 0).refreshTimer = .running 0 ∧
      (expiring.slot 0).repeatTimer = .running 0 ∧ (expiring.slot 0).takeoverTimer = .running 0 ∧
      (expiring.slot 0).muteTimer = .running 0 ∧ (expiring.lane .l1).notice.timer = .running 0 ∧
      expiring.queue.presenceTimer = .running 0) ∧
      (busy.settlingIn ≠ .running 0 ∧ (busy.slot 0).refreshTimer ≠ .running 0 ∧
      (busy.slot 0).repeatTimer ≠ .running 0 ∧ (following.slot 0).takeoverTimer ≠ .running 0 ∧
      (busy.slot 0).muteTimer ≠ .running 0 ∧ (busy.lane .l1).notice.timer ≠ .running 0 ∧
      busy.queue.presenceTimer ≠ .running 0) := by decide +kernel

theorem alerted_owes (state : AlertState) (holding : Nat) (sent : LastSent) :
    OwedByRefresh (alerted state holding sent) 12 0 :=
  owed_of_stale busy _ (carrier 12 9 .stale false) rfl

theorem alerted_peer (state : AlertState) (holding : Nat) (sent : LastSent) (p : Payload) :
    PeerFrame (alerted state holding sent) { station := 31, payload := p } ∧
      PeerFrame (alerted state holding sent) { station := 12, payload := p } :=
  ⟨peer_of _ _ _ (by decide : busy.link.state ≠ .off) rfl rfl rfl (by decide),
    peer_of _ _ _ (by decide : busy.link.state ≠ .off) rfl rfl rfl (by decide)⟩

/-- Keys (5, 31) and (6, 31) against (6, 15): lower on holding, higher on station; every state of the slot; a sender without and
with a STALE entry. -/
theorem witness_AlertReceptionYieldsAndFollows :
    (∀ state holding sent p, (PeerFrame (alerted state holding sent) { station := 31, payload := p } ∧
        PeerFrame (alerted state holding sent) { station := 12, payload := p }) ∧
      OwedByRefresh (alerted state holding sent) (12 : Byte).toNat 0 ∧
      ((alerted state holding sent).slot 0).alert = state) ∧
      articleSlot carried.running (4017233 : Article).toNat = some 0 ∧ carried.settlingIn = .ended ∧
      ((5 : BitVec 16).toNat < ((alerted .raised 6 .raised).slot 0).holding) ∧
      ¬ ((6 : BitVec 16).toNat < ((alerted .raised 6 .raised).slot 0).holding ∨
        (6 : BitVec 16).toNat = ((alerted .raised 6 .raised).slot 0).holding ∧
          (31 : Byte).toNat < (alerted .raised 6 .raised).running.station) ∧
      (articleSlot carried.running (6100412 : Article).toNat = none ∧ (0 : Byte) ≠ 1 ∧ (4 : Byte) ≠ 3) ∧
      ∀ p, OutsideFrame busy { station := 0, payload := p } ∧
        ∃ link, OwnDelivery (ownSent busy p) { station := 15, payload := p } link :=
  ⟨fun _ _ _ _ => ⟨alerted_peer _ _ _ _, alerted_owes _ _ _, rfl⟩, by decide +kernel, by decide +kernel,
    by decide +kernel, by decide +kernel, by decide +kernel,
    fun p => ⟨(outside_frames p).1, (own_delivers _ p (by decide) rfl rfl).1⟩⟩

/-- A carried article and one that is not carried, 0 minutes, 240 and 241, every state, senders 0 and 255, and a sender with a
STALE entry. -/
theorem witness_HushMutesShortSlots :
    (∀ state holding sent f, Assembles (alerted state holding sent) (frameChars f) ∧
      OwedByRefresh (alerted state holding sent) (12 : Byte).toNat 0 ∧
      ((alerted state holding sent).slot 0).alert = state ∧ ((alerted state holding sent).slot 0).lastSent = sent) ∧
      articleSlot carried.running (4017233 : Article).toNat = some 0 ∧
      articleSlot carried.running (6100412 : Article).toNat = none ∧
      (0 : Byte) ≠ carried.ownStation ∧ (255 : Byte) ≠ carried.ownStation ∧ (12 : Byte) ≠ carried.ownStation ∧
      (241 : Byte) ≠ 0 :=
  ⟨fun _ _ _ _ => ⟨assembles_of_searching _ _ (by decide : busy.link.state ≠ .off) rfl rfl, alerted_owes _ _ _,
      rfl, rfl⟩, by decide +kernel⟩

/-- A request that resolves to each status, and one that resolves to none and is the first waiting. -/
theorem witness_AlertRequestsResolve :
    (waiting (.alert 0)).key = .alert 0 ∧
      (∀ state sent, ((alerted state 5 sent).slot 0).alert = state ∧ ((alerted state 5 sent).slot 0).lastSent = sent) ∧
      (∀ s, s = withRequests (alerted .following 5 .raised) [waiting (.stock 0), waiting (.alert 0)] →
        s.build (waiting (.alert 0)) = none ∧ firstWaiting s.queue.requests = some (waiting (.alert 0))) := by
  refine ⟨rfl, fun _ _ => ⟨rfl, rfl⟩, ?_⟩
  rintro s rfl
  decide +kernel

/-! ## Witnesses: transmit queue and link controller -/

/-- A CLAIM in flight beside a PRESENCE that waits. -/
def claimFlying : State :=
  withRequests (sending busy (.claim 31 1) (.claim 31 1 1))
    [{ waiting (.claim 31 1) with inFlight := true, claimType := some .foreign }, waiting .presence]

theorem witness_PlacementCoalescesAndWithdrawalDetaches :
    (claimFlying.queue.requests.map Request.key).Nodup ∧ RequestKey.shock ∉ claimFlying.queue.requests.map Request.key ∧
      RequestKey.presence ∈ claimFlying.queue.requests.map Request.key ∧
      RequestKey.claim 31 2 ∉ claimFlying.queue.requests.map Request.key ∧
      (∃ r ∈ claimFlying.queue.requests, r.key = .claim 31 1 ∧ r.inFlight = true ∧ r.renewal = none) ∧
      claimFlying.link.flight = some (flying (.claim 31 1) (.claim 31 1 1)) := by decide +kernel

/-- A CLAIM request for an offer of station 31. -/
def claiming (tag : Byte) : Request := { waiting (.claim 31 tag) with claimType := some .foreign }

/-- Three requests, the CLAIMs of one age apart in their keys only; the receiver, the recessive count and the spacing flag as
given. -/
def queued (receiver : ReceiverState) (count : Nat) (spacing : Bool) : State :=
  withLink (withRequests busy [waiting .presence, claiming 2, claiming 1]) fun k =>
    { k with receiver := receiver, recessiveCount := count, spacing := spacing }

/-- Each of the conditions that keep a frame back; counts 10 and 11, and 14 and 15 with the spacing flag; an ALERT that resolves
to nothing before a STOCK; an own entry for an OFFER, and a CLAIM's type. -/
theorem witness_TransmissionStartTakesFirstRequest :
    (∀ x ∈ [(11, false), (15, true)],
      (queued .searching x.1 x.2).link.state = .active ∧ (queued .searching x.1 x.2).frontEnd.supplyHold = false ∧
        (queued .searching x.1 x.2).link.flight = none ∧ (queued .searching x.1 x.2).link.receiver = .searching ∧
        11 ≤ (queued .searching x.1 x.2).link.recessiveCount ∧
        ((queued .searching x.1 x.2).link.spacing = true → 15 ≤ (queued .searching x.1 x.2).link.recessiveCount) ∧
        (queued .searching x.1 x.2).link.driverInhibited = false ∧
        claiming 1 ∈ (queued .searching x.1 x.2).queue.requests ∧
        ((queued .searching x.1 x.2).build (claiming 1)).isSome = true) ∧
      (∀ q ∈ (queued .searching 15 false).queue.requests, q.inFlight = false → q ≠ claiming 1 →
        keyKind (RequestKey.claim 31 1) < keyKind q.key ∨ keyKind (RequestKey.claim 31 1) = keyKind q.key ∧
          (7 < q.age ∨ 7 = q.age ∧ keyOrder (RequestKey.claim 31 1) < keyOrder q.key)) ∧
      ((withRequests busy [waiting (.alert 0), waiting (.stock 0)]).build (waiting (.alert 0)) = none ∧
        busy.link.recessiveCount = 15 ∧ keyKind (RequestKey.alert 0) < keyKind (RequestKey.stock 0)) ∧
      ((withLists busy [away 0 6100412 .queued] []).matcher.pendingOut.find? (fun e => decide (e.tag = 0)) =
        some (away 0 6100412 .queued) ∧ (claiming 1).claimType = some .foreign) ∧
      (State.reset.link.state ≠ .active ∧ (checking true 0 0 .atHold).frontEnd.supplyHold = true ∧
        claimFlying.link.flight.isSome = true ∧ busy.queue.requests = [] ∧
        (queued .waitingForIdle 15 false).link.receiver ≠ .searching ∧
        (queued .searching 10 false).link.recessiveCount < 11 ∧
        (queued .searching 14 true).link.spacing = true ∧ (queued .searching 14 true).link.recessiveCount < 15) := by
  decide +kernel

/-- A CLAIM whose frame has been sent up to a bit. -/
def claimAt (position : Nat) : State :=
  withLink claimFlying fun k => { k with flight := some (flyingAt position (.claim 31 1) (.claim 31 1 1)) }

/-- The CLAIM's kind character 00000001 is recessive at its last data bit, where arbitration is lost; its first data bit is
dominant, where a readback fails; both ends of the 20 µs at either bit rate; the health counter at 27 and at 28. -/
theorem witness_FailedTransmissionsKeepTheRequest :
    (∀ position, (claimAt position).link.flight = some (flyingAt position (.claim 31 1) (.claim 31 1 1)) ∧
      (claimAt position).link.state = .active ∧ (claimAt position).running.bitRate = .k100) ∧
      ((7 : Nat) ≤ 10 * 0 + 8 ∧ 10 * 0 + 8 < 7 + 2 ∧ 10 * 0 + 8 < 9 ∧ 6 + 2 ≤ 10 * 0 + 8) ∧
      bitAt (frameChars (flying (.claim 31 1) (.claim 31 1 1)).frame) 8 = true ∧
      bitAt (frameChars (flying (.claim 31 1) (.claim 31 1 1)).frame) 1 = false ∧
      (frameChars (flying (.claim 31 1) (.claim 31 1 1)).frame).length = 8 ∧
      (∀ s, s = withLink claimFlying (fun k => { k with health := 28 }) →
        s.link.flight = some (flying (.claim 31 1) (.claim 31 1 1)) ∧ s.link.state = .active ∧ 32 ≤ s.link.health + 4) ∧
      (∀ s, s = withLists (sending busy (.offer 0) (.offer 0 6100412 1 1000 40 30)) [away 0 6100412 .sending] [] →
        s.link.flight.isSome = true ∧ s.link.state = .active) ∧
      (claimFlying.link.driver = .driving ∧ claimFlying.link.driverInhibited = false ∧ (withLink claimFlying Link.released).link.driver = .released ∧
        (flyingAt 80 (.claim 31 1) (.claim 31 1 1)).position =
          10 * (frameChars (flying (.claim 31 1) (.claim 31 1 1)).frame).length) := by
  refine ⟨fun _ => ⟨rfl, rfl, rfl⟩, by decide, by decide +kernel, by decide +kernel, by decide +kernel, ?_, ?_,
    by decide +kernel⟩ <;> (rintro s rfl; decide +kernel)

/-- A frame sent to its last bit for a request of each kind, with a renewal mark and without; a detached one; one still being
sent. -/
theorem witness_TransmissionEndCompletesTheRequest :
    (∀ x ∈ [(RequestKey.shock, Payload.shock), (.claim 31 1, .claim 31 1 1), (.offer 0, .offer 0 6100412 1 1000 40 30),
        (.alert 0, .alert 4017233 1 20 5 20), (.alert 0, .alert 4017233 2 20 5 20), (.alert 0, .alert 4017233 3 20 5 20),
        (.notice .l1, .notice 1 4017233 1), (.stock 0, .stock 4017233 20 0), (.presence, .presence 129 0)],
      ∀ f, f = flyingAt (10 * (5 + (payloadBytes x.2).length)) x.1 x.2 →
        f.position = 10 * (frameChars f.frame).length ∧ f.key = x.1 ∧ f.frame.payload = x.2 ∧ f.detached = false) ∧
      (∀ f renewal, ∀ s, s = withLink (withRequests busy [{ waiting f.key with inFlight := true, renewal := renewal }])
          (fun k => { k with flight := some f }) → s.link.flight = some f ∧ s.slot 0 = busy.slot 0) ∧
      (busy.slot 0).alert = .normal ∧
      ∀ f, f = { flying (.claim 31 1) (.claim 31 1 1) with detached := true } →
        f.detached = true ∧ f.position ≠ 10 * (frameChars f.frame).length := by
  refine ⟨?_, ?_, by decide +kernel, ?_⟩
  · intro x hx f hf
    subst hf
    revert x
    decide +kernel
  · rintro f renewal s rfl
    exact ⟨rfl, rfl⟩
  · rintro f rfl
    decide +kernel

/-- A link in a state, its receiver and its recessive count as given. -/
def linkIn (state : LinkState) (receiver : ReceiverState := .searching) (count : Nat := 15) : State :=
  withLink busy fun k =>
    { k with
      state := state, quarantineTimer := .running 0, health := 32, receiver := receiver, recessiveCount := count }

/-- Each state; a quarantine that has run out and one that runs; counts 10 and 11; a receiver that searches, one that waits for
idle, and one with two characters at a length above 12. -/
theorem witness_LinkStatesAndLineEvents :
    ((linkIn .quarantine).link.state = .quarantine ∧ (linkIn .quarantine).link.quarantineTimer = .running 0 ∧
      (withLink busy fun k => { k with quarantineTimer := .running 20 }).link.quarantineTimer ≠ .running 0) ∧
      (∀ state receiver count, (linkIn state receiver count).link.state = state ∧
        (linkIn state receiver count).link.flight = none ∧ (linkIn state receiver count).link.receiver = receiver ∧
        (linkIn state receiver count).link.recessiveCount = count) ∧
      (10 < 11 ∧ 11 ≤ 11) ∧ claimFlying.link.flight ≠ none ∧
      (withLink busy fun k => { k with receiver := .inCharacter, buffer := [0, 31] }).link.buffer.length ≤ 2 ∧
      (∀ bits, ∀ s, s = withLink busy (fun k => { k with receiver := .inCharacter, buffer := [0, 31], bits := bits }) →
        s.link.bits = bits ∧ s.link.buffer.length = 2) ∧
      ([false] <+: charBits 13 ∧ ¬ [0, 31].flatMap charBits ++ [false] <+: [(0 : Byte), 30, 0, 1, 2].flatMap charBits) ∧
      (∀ state frame, state ≠ .off → Assembles (linkIn state) frame) := by
  refine ⟨by decide, fun _ _ _ => ⟨rfl, rfl, rfl, rfl⟩, by decide, by decide, by decide, ?_, by decide +kernel,
    fun _ _ h => assembles_of_searching _ _ h rfl rfl⟩
  rintro bits s rfl
  exact ⟨rfl, rfl⟩

/-- Each state, and a receiver that waits for idle; no own frame, one still being sent, and one that has been delivered; a
SILENCED node in RUN, with a command that is no restart and with an empty queue. -/
theorem witness_AddressConflictSilences :
    (∀ state, (linkIn state).link.flight = none ∧ (linkIn state).link.state = state) ∧
      (∀ state chars, state ≠ .off → Assembles (linkIn state) chars) ∧
      (∀ chars, ¬ Assembles (linkIn .active .waitingForIdle) chars) ∧ (linkIn .active).link.ownDelivery = none ∧
      ((flying .shock .shock).position ≠ 10 * (frameChars (flying .shock .shock).frame).length ∧
        ({ flying .shock .shock with delivered := true } : Flight).delivered = true) ∧
      (RestsOutsideRun (linkIn .silenced) ∧ Instr.start ≠ .restart ∧ (∃ t, exec .start (linkIn .silenced) = .next t)) ∧
      ∀ s, s = { linkIn .silenced with pending := [] } →
        s.link.state = .silenced ∧ s.link.flight = none ∧ s.pending = [] ∧ ∃ t, step s = .next t := by
  refine ⟨fun _ => ⟨rfl, rfl⟩, fun _ _ h => assembles_of_searching _ _ h rfl rfl, ?_, rfl, by decide +kernel,
    ⟨fun h => absurd rfl h, by decide, _, rfl⟩, ?_⟩
  · rintro chars ⟨_, _, h | ⟨h | h, _⟩⟩
    · cases h
    · cases h
    · cases h.1
  · rintro s rfl
    exact ⟨rfl, rfl, rfl, _, rfl⟩

/-! ## Witnesses: commissioning port -/

/-- A port that has sampled no bit of a byte can form each. -/
theorem forms_any {s : State} (h : s.port.incoming = []) (b : Byte) : Forms s b := by simp [Forms, h]

/-- A session whose port has sampled four bits of a byte. -/
def sampling (bits : List Bool) : State :=
  withPort session fun p => { p with incoming := bits, bitCount := bits.length, fallDue := true }

/-- R148: after the bits 0001 the byte 00010000 is SET STATION's, and none is READ STATUS's 00100000. -/
theorem test_bytes_are_formed_from_bits :
    (∃ t, exec .setStation (sampling [false, false, false, true]) = .next t ∧ t.port.command = .active .setStation ∧
      t.port.bitCount = 0 ∧ t.port.incoming = []) ∧
      exec .readStatus (sampling [false, false, false, true]) = .next (sampling [false, false, false, true]) ∧
      (∃ t, exec (.parameterByte 31) (sampling [false, false, false, true]) = .next t ∧ t.port.bitCount = 0) :=
  ⟨⟨_, rfl, rfl, rfl, rfl⟩, rfl, _, rfl, rfl⟩

/-- A reply present at a position. -/
def replying (command : PortCommand) (position : Nat) (low : Bool) : State :=
  { withPort session fun p => { p with command := .active command, position := position, reply := some [7, 8] } with
    pins := { session.pins with cpselLow := low } }

theorem witness_PortSelectionFramesBytes :
    (State.reset.pins.cpselLow = false ∧ State.reset.startUp.node = .starting) ∧
      (busy.pins.cpselLow = false ∧ busy.startUp.node ≠ .starting ∧ busy.port.reply = none) ∧
      ((replying .readStatus 2 false).pins.cpselLow = false ∧ (replying .readStatus 2 false).port.reply = some [7, 8] ∧
        (replying .readStatus 2 false).port.command = .active .readStatus) ∧
      ((replying .readLane 1 false).port.command = .active .readLane ∧ 1 ≤ (replying .readLane 1 false).port.position) ∧
      (session.pins.cpselLow = true ∧ session.startUp.node ≠ .starting ∧ session.pending = []) ∧
      (∀ due n, ∀ p, p = { Port.cleared with fallDue := due, bitCount := n } → p.fallDue = due ∧ p.bitCount = n) ∧
      (0 < 7 ∧ 6 < 7 ∧ 7 ≤ 7 ∧ 1 ≤ 7 ∧ 7 < 8) := by
  refine ⟨by decide, by decide, by decide, by decide, by decide, ?_, by decide⟩
  rintro due n p rfl
  exact ⟨rfl, rfl⟩

/-- A session with a command in progress and what it has taken. -/
def taking (command : PortCommand) (params : List Byte) : State :=
  withPort session fun p => { p with command := .active command, params := params }

theorem witness_CommandBytesBeginOrAreRefused :
    (session.pins.cpselLow = true ∧ session.startUp.node = .configuring ∧ session.port.operation = .none ∧
      session.port.command = .none) ∧
      (taking .setLink []).port.waiting .setLink = true ∧ (taking .writeSlots [0, 1]).port.waiting .writeSlots = false ∧
      (taking .setLink []).port.command = .active .setLink ∧
      storing.port.operation ≠ .none ∧
      ((withPort session fun p => { p with fallDue := true }).port.fallDue = true ∧ session.port.bitCount = 0) ∧
      (∀ s, s = { busy with pins := { busy.pins with cpselLow := true } } →
        s.pins.cpselLow = true ∧ s.startUp.node = .run ∧ s.port.operation = .none ∧ ∀ b, Forms s b) ∧
      (∀ b, Forms session b ∧ Forms storing b ∧ Forms (taking .setLink []) b) ∧
      (Forms (sampling [false, false, false, true]) 16 ∧ ¬ Forms (sampling [false, false, false, true]) 32 ∧
        Forms (sampling [true, true]) 255) := by
  refine ⟨by decide, by decide, by decide, by decide, by decide, by decide, ?_,
    fun b => ⟨forms_any rfl b, forms_any rfl b, forms_any rfl b⟩, by unfold Forms; decide⟩
  rintro s rfl
  exact ⟨rfl, rfl, rfl, forms_any rfl⟩

/-- R150: RESTART and READ CARRIERS while a STORE runs change the port alone, with result BUSY. -/
theorem test_restart_and_read_are_busy :
    (∃ t, exec .restart storing = .next t ∧ t.startUp = storing.startUp ∧ t.port.result = .busy ∧
      t.port.command = .ignoring) ∧
      ∃ t, exec .readCarriers storing = .next t ∧ t.port.result = .busy ∧ t.port.reply = none :=
  ⟨⟨_, rfl, rfl, rfl, rfl⟩, _, rfl, rfl, rfl⟩

/-- R155's own example: stations 14, 31, 14 and 200 to a node whose station is 31 leave 14. -/
theorem test_neighbours_keep_the_first :
    filterNeighbours 31 [14, 31, 14, 200] = [14] ∧ filterNeighbours 15 [14, 31, 14] = [14, 31] := by decide +kernel

/-- R148, R149: the byte 10100101 leaves on CPDO from its most significant bit on, one bit for each falling edge; at the edge after
the eighth rising one the last result code follows. Before that, a result that has changed meanwhile is the one sent. -/
theorem test_cpdo_shifts_a_byte_out :
    ([0, 2, 4, 6, 8, 10, 12, 14].map fun n =>
        (withPort session fun p => Port.clock { p with outgoing := 0xA5 } (List.replicate n true)).cpdo) =
      [some true, some false, some true, some false, some false, some true, some false, some true] ∧
      (withPort session fun p =>
        (Port.edge { { p with outgoing := 0xA5 }.shiftByte 16 with result := .storeFailed } true)).port.outgoing = 6 := by
  decide +kernel

/-- The ends of the stations, the bit rate codes, the counts and the index bytes; a slot record's last byte. -/
theorem witness_ParametersWriteTheWorkingCopy :
    (session.pins.cpselLow = true ∧ session.startUp.node = .configuring ∧ session.port.command = .none) ∧
      (∀ command params b, Forms (taking command params) b) ∧ (∀ b, Forms session b) ∧
      ((taking .setStation []).port.command = .active .setStation ∧ 1 ≤ (1 : Byte).toNat ∧ (120 : Byte).toNat ≤ 120 ∧
        120 < (121 : Byte).toNat ∧ (0 : Byte).toNat = 0) ∧
      ((taking .setLink []).port.params = [] ∧ (taking .setLink [2]).port.params = [2] ∧
        (taking .setLink [2, 4]).port.params = [2, 4]) ∧
      ((taking .setNeighbours []).port.params = [] ∧ 4 < (5 : Byte).toNat ∧ (4 : Byte).toNat ≤ 4 ∧ 1 ≤ (1 : Byte).toNat ∧
        (taking .setNeighbours [4, 1, 2, 2]).port.params = 4 :: [1, 2, 2] ∧ [1, 2, (2 : Byte)].length + 1 = 4 ∧
        (taking .setNeighbours [4, 1, 2]).port.params = 4 :: [1, 2] ∧ [1, (2 : Byte)].length + 1 < 4) ∧
      (∀ x ∈ [(PortCommand.writeSlots, (0 : Byte), (7 : Byte), (8 : Byte)), (.writeLanes, 1, 4, 5)],
        (taking x.1 []).port.command = .active x.1 ∧ (taking x.1 []).port.params = [] ∧
        (taking x.1 [x.2.2.1]).port.params = [x.2.2.1] ∧ x.2.1.toNat ≤ x.2.2.1.toNat ∧
        x.2.1.toNat < x.2.2.1.toNat ∧ x.2.2.1.toNat < x.2.2.2.toNat) ∧
      ((taking .writeSlots [3, 7]).port.recordBuffer.length + 1 < 8 ∧
        (taking .writeLanes [1, 4]).port.recordBuffer.length + 1 < 16) ∧
      (∀ s, s = withPort (taking .writeSlots [3, 7]) (fun p =>
          { p with windowCounter := 7, recordBuffer := [0, 0, 1, 255, 255, 0, 0] }) →
        s.port.command = .active .writeSlots ∧ s.port.params = [3, 7] ∧ s.port.windowCounter = (7 : Slot).val ∧
          s.port.recordBuffer = [0, 0, 1, 255, 255, 0, 0]) := by
  refine ⟨by decide, fun _ _ b => forms_any rfl b, fun b => forms_any rfl b, by decide, by decide, by decide, by decide,
    by decide, ?_⟩
  rintro s rfl
  decide

/-- Fifteen bytes of a lane record with a use byte and a unit weight, its last byte to come. -/
def laneBytes (use high low : Byte) : List Byte := [use, high, low, 20, 0, 60, 1, 144, 0, 30, 10, 255, 255, 255, 0]

/-- U at 5, 30,000, 4 and 30,001, slot indexes 7 and 8, span fields 0 and 1. -/
theorem witness_LaneRecordsApply :
    (∀ use high low s, s = withPort (taking .writeLanes [2, 3]) (fun p =>
        { p with windowCounter := 3, recordBuffer := laneBytes use high low }) →
      s.pins.cpselLow = true ∧ s.startUp.node = .configuring ∧ s.port.command = .active .writeLanes ∧
        s.port.params = [2, 3] ∧ s.port.windowCounter = Lane.l3.number ∧ (laneBytes use high low).length = 15 ∧
        s.port.recordBuffer = laneBytes use high low ∧ s.port.recordRefused = false ∧ ∀ b, Forms s b) ∧
      (0 * 256 + 5 = 5 ∧ 117 * 256 + 48 = 30000 ∧ 0 * 256 + 4 < 5 ∧ 30000 < 117 * 256 + 49 ∧ 135 % 128 < 8 ∧
        8 ≤ 136 % 128 ∧ ((laneBytes 135 0 5 ++ [0]).getD 15 0).toNat = 0 ∧
        ((laneBytes 135 0 5 ++ [1]).getD 15 0).toNat ≠ 0) := by
  refine ⟨?_, by decide⟩
  rintro use high low s rfl
  exact ⟨rfl, rfl, rfl, rfl, rfl, rfl, rfl, rfl, forms_any rfl⟩

/-- Each parameter of both captures, with loads of 99, 100, 99,999 and 100,000 g, in supply hold and out of it; a 1st, 31st and
32nd sample, the last at the instant of a supply hold too; codes in and out of range. -/
theorem witness_CapturesTakeThirtyTwoSamples :
    (∀ hold, (withFront (taking .captureZero []) fun f => { f with supplyHold := hold }).pins.cpselLow = true ∧
      (withFront (taking .captureZero []) fun f => { f with supplyHold := hold }).startUp.node = .configuring ∧
      (withFront (taking .captureZero []) fun f => { f with supplyHold := hold }).port.command = .active .captureZero ∧
      (withFront (taking .captureZero []) fun f => { f with supplyHold := hold }).frontEnd.supplyHold = hold) ∧
      ((4 : Byte).toNat = Lane.l4.number ∧ ∀ m : Lane, (5 : Byte).toNat ≠ m.number) ∧
      (∀ params, (taking .captureSpan params).port.command = .active .captureSpan ∧
        (taking .captureSpan params).port.params = params ∧ ∀ b, Forms (taking .captureSpan params) b) ∧
      (∀ hold b, Forms (withFront (taking .captureZero []) fun f => { f with supplyHold := hold }) b) ∧
      ((0 : Byte).toNat * 65536 + (0 : Byte).toNat * 256 + (99 : Byte).toNat = 99 ∧
        (0 : Byte).toNat * 65536 + (0 : Byte).toNat * 256 + (100 : Byte).toNat = 100 ∧
        (1 : Byte).toNat * 65536 + (134 : Byte).toNat * 256 + (159 : Byte).toNat = 99999 ∧
        (1 : Byte).toNat * 65536 + (134 : Byte).toNat * 256 + (160 : Byte).toNat = 100000) ∧
      (∀ n op s, s = withLane (converting (capturing n op) .l2) .l2 (fun u => { u with warmUp := 0 }) →
        s.startUp.node = .configuring ∧ Converts s .l2 ∧ (s.lane .l2).warmUp = 0 ∧
          s.port.capture = some { lane := .l2, load := 20000, samples := n, sum := 0 } ∧ s.port.operation = op) ∧
      (∀ op, (lateCapture 31 op true).startUp.node = .configuring ∧ Converts (lateCapture 31 op true) .l2 ∧
        ((lateCapture 31 op true).lane .l2).warmUp = 0 ∧ (lateCapture 31 op true).port.operation = op ∧
        (lateCapture 31 op true).port.capture = some { lane := .l2, load := 20000, samples := 31, sum := 0 } ∧
        (lateCapture 31 op true).frontEnd.dipFilter = .running 0) ∧
      (30 + 1 < 32 ∧ 31 + 1 = 32 ∧ (BitVec.ofInt 24 8388607).toInt = 8388607 ∧
        (BitVec.ofInt 24 8388606).toInt ≠ 8388607) := by
  refine ⟨by decide, ⟨by decide, fun m => by cases m <;> decide⟩, fun _ => ⟨rfl, rfl, forms_any rfl⟩,
    fun _ b => forms_any rfl b, by decide, ?_, fun _ => ⟨rfl, ⟨rfl, rfl, rfl⟩, rfl, rfl, rfl, rfl⟩, by decide⟩
  rintro n op s rfl
  exact ⟨rfl, ⟨rfl, rfl, rfl⟩, rfl, rfl, rfl⟩

/-! ## Witnesses: start-up and store -/

/-- A working copy that fails validation for a lane without a span. -/
def spanless : State := { session with working := { bay with lanes := bay.lanes.set 1 { lane1 with spanCaptured := false } } }

theorem witness_StoreAndStartFromASession :
    (storing.startUp.node = .configuring ∧ storing.port.operation = .store ∧ storing.startUp.storePhase ≠ .none) ∧
      (session.pins.cpselLow = true ∧ session.port.operation = .none ∧ session.port.command = .none ∧
        session.frontEnd.supplyHold = false ∧ validate session.working = none) ∧
      (spanless.startUp.node = .configuring ∧ validate spanless.working = some 34) ∧
      (withFront session fun f => { f with supplyHold := true }).frontEnd.supplyHold = true ∧
      ∀ hold b, Forms (withFront session fun f => { f with supplyHold := hold }) b ∧ Forms spanless b :=
  ⟨by decide +kernel, by decide +kernel, by decide +kernel, rfl, fun _ b => ⟨forms_any rfl b, forms_any rfl b⟩⟩

/-- A held restart whose record of the cause is lost, or not. -/
def heldRestart (lost : Bool) : State :=
  { State.reset with
    startUp := { State.reset.startUp with startDelay := .stopped, causeLost := lost }
    pins := { State.reset.pins with resetnLow := true, vdd := .belowHold } }

theorem witness_RestartsClearEveryBlock :
    (session.pins.cpselLow = true ∧ session.startUp.node ≠ .starting ∧ session.port.operation = .none ∧
      session.pins.vdd = .atHold ∧ session.startUp.storePhase = .none ∧ storing.startUp.storePhase ≠ .none ∧
      (storingIn .markerCleared).startUp.storePhase = .markerCleared) ∧ Forms session 30 ∧
      (∀ lost, (heldRestart lost).startUp.node = .starting ∧ (heldRestart lost).startUp.startDelay = .stopped ∧
        (heldRestart lost).startUp.causeLost = lost) := by
  refine ⟨by decide, forms_any rfl 30, fun _ => ⟨rfl, rfl, rfl⟩⟩

/-- A start decision due, with an image. -/
def deciding (image : NodeConfig) (valid low : Bool) : State :=
  { State.reset with
    startUp := { State.reset.startUp with startDelay := .running 0, image := image, markerValid := valid }
    pins := { State.reset.pins with cpselLow := low } }

theorem deciding_rests (image : NodeConfig) (valid low : Bool) : RestsOutsideRun (deciding image valid low) := fun _ =>
  { settlers := fun l => by cases l <;> rfl
    counts := fun l => by cases l <;> rfl
    records := fun l => by cases l <;> rfl
    notices := fun l => by cases l <;> rfl
    matcher := rfl
    slots := session_rests.slots
    carriers := rfl
    settlingIn := rfl
    queue := rfl
    link := rfl
    mode := rfl
    quiet := rfl
    spacing := rfl }

theorem witness_StartDecisionEntersRunOrConfiguring :
    (∀ image valid low, (deciding image valid low).startUp.node = .starting ∧
      (deciding image valid low).startUp.startDelay = .running 0 ∧ RestsOutsideRun (deciding image valid low) ∧
      (deciding image valid low).startUp.markerValid = valid ∧ (deciding image valid low).pins.cpselLow = low) ∧
      State.reset.startUp.startDelay ≠ .running 0 ∧ validate bay = none ∧ validate NodeConfig.default = some 1 ∧
      validate spanless.working = some 34 :=
  ⟨fun image valid low => ⟨rfl, rfl, deciding_rests image valid low, rfl, rfl⟩, by decide +kernel⟩

theorem witness_ReadsBuildTheirReplies :
    (session.pins.cpselLow = true ∧ session.startUp.node ≠ .starting ∧ session.port.command = .none ∧
      session.port.operation = .none) ∧
      (∀ b, Forms session b ∧ Forms (taking .readLane []) b ∧ Forms (taking .readSlot []) b) ∧
      ((taking .readLane []).port.command = .active .readLane ∧ (taking .readLane []).port.reply = none ∧
        (taking .readLane []).port.position = 0 ∧ (4 : Byte).toNat = Lane.l4.number ∧
        ∀ l : Lane, (5 : Byte).toNat ≠ l.number) ∧
      ((taking .readSlot []).port.command = .active .readSlot ∧ (7 : Byte).toNat = (7 : Slot).val ∧
        8 ≤ (8 : Byte).toNat) := by
  refine ⟨by decide, fun b => ⟨forms_any rfl b, forms_any rfl b, forms_any rfl b⟩,
    ⟨by decide, by decide, by decide, by decide, fun l => ?_⟩, by decide⟩
  cases l <;> decide

end Sys2Proof.Tests
end

section
/-! The excitation check (section 1.8): R13 outside supply hold, R16 in it, and what the end of supply hold does to every lane
(R5, R29). -/

namespace Sys2Proof.Machine

open Sys2Proof.Config

/-! ## The reading -/

theorem excitationOf_fraction_good {num : Int} {den : Nat}
    (h : 7125 * (den : Int) ≤ 10000 * num ∧ 10000 * num ≤ 7875 * (den : Int)) :
    excitationOf (.fraction num den) = .good := if_pos h

theorem excitationOf_fraction_bad {num : Int} {den : Nat}
    (h : 10000 * num < 7125 * (den : Int) ∨ 7875 * (den : Int) < 10000 * num) :
    excitationOf (.fraction num den) = .bad := if_neg (by omega)

/-! ## The two runs -/

/-- The due check of a round completed with a result, before either run is counted (R13). -/
def State.checked (s : State) (e : Excitation) : State :=
  { s with frontEnd := { s.frontEnd with checkDue := false, excitation := e } }

theorem exec_excitationCheck_in_hold {s : State} (r : ExcitationReading) (hd : s.frontEnd.checkDue = true)
    (hh : s.frontEnd.supplyHold = true) :
    exec (.excitationCheck r) s = .next ((s.checked (excitationOf r)).checkInHold (excitationOf r)) := by
  show execExcitationCheck r s = _
  simp [execExcitationCheck, takeEvent, State.checked, hd, hh]

theorem exec_excitationCheck_outside_hold {s : State} (r : ExcitationReading) (hd : s.frontEnd.checkDue = true)
    (hh : s.frontEnd.supplyHold = false) :
    exec (.excitationCheck r) s = .next ((s.checked (excitationOf r)).checkOutsideHold (excitationOf r)) := by
  show execExcitationCheck r s = _
  simp [execExcitationCheck, takeEvent, State.checked, hd, hh]

theorem State.checkOutsideHold_good (s : State) :
    s.checkOutsideHold .good = { s with frontEnd := { s.frontEnd with badRun := 0 } } := rfl

theorem State.checkOutsideHold_first_bad {s : State} (h : s.frontEnd.badRun = 0) :
    s.checkOutsideHold .bad = { s with frontEnd := { s.frontEnd with badRun := 1 } } := by
  simp [State.checkOutsideHold, h]

theorem State.checkOutsideHold_second_bad {s : State} (h : 1 ≤ s.frontEnd.badRun) :
    s.checkOutsideHold .bad = State.beginSupplyHold { s with frontEnd := { s.frontEnd with badRun := 0 } } :=
  if_pos (Nat.succ_le_succ h)

theorem State.checkInHold_first_good {s : State} (hv : s.pins.vdd = .atHold) (h : s.frontEnd.goodRun = 0) :
    s.checkInHold .good = { s with frontEnd := { s.frontEnd with goodRun := 1, conversionsDue := [] } } := by
  simp [State.checkInHold, hv, h]

theorem State.checkInHold_second_good {s : State} (hv : s.pins.vdd = .atHold) (h : 1 ≤ s.frontEnd.goodRun) :
    s.checkInHold .good = s.endSupplyHold := by
  simp [State.checkInHold, hv, h]

/-- A BAD check, or one with VDD below the hold level, counts nothing towards the end of supply hold. -/
theorem State.checkInHold_other {s : State} {e : Excitation} (h : e = .bad ∨ s.pins.vdd ≠ .atHold) :
    s.checkInHold e = { s with frontEnd := { s.frontEnd with goodRun := 0, conversionsDue := [] } } := by
  refine if_neg fun ⟨hgood, hvdd⟩ => ?_
  rcases h with hbad | hlow
  · exact absurd (hgood.symm.trans hbad) (by decide)
  · exact hlow hvdd

/-- A check in supply hold leaves the bad-check run, or clears it at the end of hold: the runs of R13 and R16 do not mix. -/
theorem State.checkInHold_badRun (s : State) (e : Excitation) :
    (s.checkInHold e).frontEnd.badRun = s.frontEnd.badRun ∨ (s.checkInHold e).frontEnd.badRun = 0 := by
  unfold State.checkInHold
  split
  · split
    · exact .inr rfl
    · exact .inl rfl
  · exact .inl rfl

/-! ## The end of supply hold -/

theorem Settler.supplyReleased_eq (t : Settler) : t.supplyReleased =
    if t.supplyWait = true then
      { t with supplyWait := false, holdTimer := .running (max t.holdTimer.remaining 500000) }
    else t := rfl

theorem State.endSupplyHold_frontEnd (s : State) : s.endSupplyHold.frontEnd =
    { s.frontEnd with supplyHold := false, goodRun := 0, badRun := 0 } := rfl

theorem State.endSupplyHold_lane (s : State) (l : Lane) :
    s.endSupplyHold.lane l = { s.lane l with warmUp := 8, settler := (s.lane l).settler.supplyReleased } :=
  State.mapLanes_lane _ _ l

theorem State.endSupplyHold_frame (s : State) :
    s.endSupplyHold = { s with frontEnd := s.endSupplyHold.frontEnd, lanes := s.endSupplyHold.lanes } := rfl

/-! ## The statements -/

/-- Settles O17, along the three outcomes of a check in supply hold: a first good one, a second one, and any other. -/
theorem excitationCheckInHold : Obligations.ExcitationCheckInHold := by
  intro s r hdue hhold
  rw [exec_excitationCheck_in_hold r hdue hhold]
  refine ⟨fun ⟨hgood, hvdd⟩ => ?_, fun hother => ?_⟩
  · rw [hgood]
    refine ⟨fun hfirst => ?_, fun hsecond => ?_⟩
    · rw [State.checkInHold_first_good (s := s.checked .good) hvdd hfirst]
      rfl
    · rw [State.checkInHold_second_good (s := s.checked .good) hvdd hsecond]
      refine ⟨_, rfl, State.endSupplyHold_frontEnd _, fun l => ?_, State.endSupplyHold_frame (s.checked .good)⟩
      rw [State.endSupplyHold_lane, Settler.supplyReleased_eq]
      rfl
  · rw [State.checkInHold_other (s := s.checked _) hother]
    rfl

/-- Settles O16: in supply hold by what its check can do to the bad-check run, outside it along GOOD, a first BAD check and a
second one. -/
theorem excitationCheckOutsideHold : Obligations.ExcitationCheckOutsideHold := by
  intro s num den _ hdue
  refine ⟨fun hhold r => ?_, fun hhold => ⟨fun hrange => ?_, fun r hr => ?_⟩⟩
  · exact ⟨_, exec_excitationCheck_in_hold r hdue hhold, State.checkInHold_badRun (s.checked (excitationOf r)) _⟩
  · rw [exec_excitationCheck_outside_hold _ hdue hhold, excitationOf_fraction_good hrange, State.checkOutsideHold_good]
    rfl
  · have hbad : excitationOf r = .bad := by
      rcases hr with rfl | ⟨rfl, hrange⟩
      · rfl
      · exact excitationOf_fraction_bad hrange
    rw [exec_excitationCheck_outside_hold r hdue hhold, hbad]
    refine ⟨fun hfirst => ?_, fun hsecond => ?_⟩
    · rw [State.checkOutsideHold_first_bad (s := s.checked .bad) hfirst]
      rfl
    · rw [State.checkOutsideHold_second_bad (s := s.checked .bad) hsecond]
      rfl

end Sys2Proof.Machine
end

section
/-! The figures of a settle (section 3.3): the count (R41), the tolerance (R42), the acceptance, and the tolerance of a movement. -/

namespace Sys2Proof.Machine

open Sys2Proof.Config

/-! ## Bounds of a rounded quotient -/

theorem RoundsTo.le_of_lt_half_above {a q k : Int} {b : Nat} (hq : RoundsTo a b q) (ha : 2 * a < (2 * k + 1) * (b : Int)) :
    q ≤ k := by
  obtain ⟨hnear, -⟩ := hq
  refine Int.not_lt.mp fun hlt => ?_
  have hmul : (k + 1) * (b : Int) ≤ q * (b : Int) := Int.mul_le_mul_of_nonneg_right (by omega) (by omega)
  have hnext : 2 * ((k + 1) * (b : Int)) = (2 * k + 1) * (b : Int) + b := by
    rw [← Int.mul_assoc, Int.mul_add, Int.add_mul, Int.add_mul, Int.mul_one, Int.one_mul]
    omega
  omega

theorem RoundsTo.le_of_half_below_lt {a q k : Int} {b : Nat} (hq : RoundsTo a b q) (ha : (2 * k - 1) * (b : Int) < 2 * a) :
    k ≤ q := by
  obtain ⟨hnear, -⟩ := hq
  refine Int.not_lt.mp fun hlt => ?_
  have hmul : q * (b : Int) ≤ (k - 1) * (b : Int) := Int.mul_le_mul_of_nonneg_right (by omega) (by omega)
  have hprev : 2 * ((k - 1) * (b : Int)) = (2 * k - 1) * (b : Int) - b := by
    rw [← Int.mul_assoc, Int.mul_sub, Int.sub_mul, Int.sub_mul, Int.mul_one, Int.one_mul]
    omega
  omega

/-! ## The count (R41) -/

theorem countOf_eq (r : LaneRecord) (e : Int) : (countOf r e : Int) = max 0 (min 999 (roundDiv e r.unitWeight)) := by
  rw [countOf, clampInt_eq _ (by decide), Int.toNat_of_nonneg (Int.le_max_left _ _)]

theorem countOf_le (r : LaneRecord) (e : Int) : countOf r e ≤ 999 := by
  have := countOf_eq r e
  omega

theorem countOf_of_neg {r : LaneRecord} {e : Int} (hu : 0 < r.unitWeight) (he : e < 0) : countOf r e = 0 := by
  have hq : roundDiv e r.unitWeight ≤ 0 := (roundDiv_rounds e _ hu).le_of_lt_half_above (by omega)
  have := countOf_eq r e
  omega

/-- From 999 and a half cases on the quotient rounds to 1,000 or more and the clamp sets it to 999. -/
theorem countOf_of_full {r : LaneRecord} {e : Int} (hu : 0 < r.unitWeight) (he : 1999 * (r.unitWeight : Int) ≤ 2 * e) :
    countOf r e = 999 := by
  have hq : 999 ≤ roundDiv e r.unitWeight := (roundDiv_rounds e _ hu).le_of_half_below_lt (by omega)
  have := countOf_eq r e
  omega

/-! ## The tolerance (R42) -/

theorem perUnitTol_le_iff (r : LaneRecord) (k : Nat) : r.unitWeight * r.allowance ≤ 1000 * k ↔ perUnitTol r ≤ k :=
  ceilDiv_le_iff _ _ _ (by decide)

theorem perUnitTol_of_no_allowance {r : LaneRecord} (h : r.allowance = 0) : perUnitTol r = 0 :=
  Nat.le_zero.mp ((perUnitTol_le_iff r 0).mp (Nat.le_of_eq (Nat.mul_eq_zero.mpr (.inr h))))

theorem LaneRanged.perUnitTol_le {r : LaneRecord} (hr : LaneRanged r) : perUnitTol r ≤ 6000 :=
  (perUnitTol_le_iff r 6000).mp (Nat.le_trans (Nat.mul_le_mul hr.unit.2 hr.allowance) (by decide))

/-- At most 2,000 g of T0 and 999 cases of 6,000 g. -/
theorem LaneRanged.tolerance_le {r : LaneRecord} (hr : LaneRanged r) {n : Nat} (hn : n ≤ 999) :
    tolerance r n ≤ 5996000 :=
  Nat.add_le_add hr.base.2 (Nat.mul_le_mul hn hr.perUnitTol_le)

/-! ## The statement -/

/-- Settles O25, with Tu the model's `perUnitTol`: the count, then the tolerance, then the acceptance and the movement, which
are the model's own equations. -/
theorem settleFiguresOfALane : Obligations.SettleFiguresOfALane := by
  intro r filtered foreign hr
  have hu : 0 < r.unitWeight := Nat.lt_of_lt_of_le (by decide) hr.unit.1
  have hcount : ∃ q : Int, RoundsTo (filtered - foreign) r.unitWeight q ∧
      ((figuresOf r filtered foreign).n : Int) = max 0 (min 999 q) :=
    ⟨_, roundDiv_rounds _ _ hu, countOf_eq r _⟩
  have haccepted : (figuresOf r filtered foreign).accepted = true ↔
      (figuresOf r filtered foreign).residual.natAbs ≤ (figuresOf r filtered foreign).tolerance := decide_eq_true_iff
  refine ⟨perUnitTol r, perUnitTol_le_iff r, perUnitTol_of_no_allowance, hr.perUnitTol_le, hcount, rfl,
    fun hneg => countOf_of_neg hu (by omega), countOf_of_full hu, rfl, rfl, hr.tolerance_le (countOf_le r _),
    haccepted, ?_⟩
  rintro c l cases rfl
  exact ⟨rfl, rfl⟩

end Sys2Proof.Machine
end

section
/-! The tag of a new pending-out entry (R58): the search from the tag counter, its nine values, and what a created entry carries. -/

namespace Sys2Proof.Machine

open Sys2Proof.Config

/-! ## The search for a free tag -/

theorem freeTag_of_used {used : List Byte} {t : Byte} (fuel : Nat) (h : t ∈ used) :
    freeTag used (fuel + 1) t = freeTag used fuel (t + 1) :=
  if_pos (List.contains_iff_mem.mpr h)

theorem freeTag_of_free {used : List Byte} {t : Byte} (fuel : Nat) (h : t ∉ used) : freeTag used (fuel + 1) t = t :=
  if_neg (mt List.contains_iff_mem.mp h)

theorem tag_succ_add (t : Byte) (k : Nat) : t + 1 + BitVec.ofNat 8 k = t + BitVec.ofNat 8 (k + 1) := by
  rw [BitVec.ofNat_add, BitVec.add_assoc, BitVec.add_comm 1]
  rfl

/-- A free value that is not the start is among the values after it. -/
theorem exists_free_of_used {used : List Byte} {t : Byte} {fuel : Nat} (ht : t ∈ used)
    (hex : ∃ i, i < fuel + 1 ∧ t + BitVec.ofNat 8 i ∉ used) : ∃ i, i < fuel ∧ t + 1 + BitVec.ofNat 8 i ∉ used := by
  obtain ⟨i, hi, hfree⟩ := hex
  cases i with
  | zero =>
    rw [BitVec.add_zero] at hfree
    exact absurd ht hfree
  | succ i =>
    rw [← tag_succ_add] at hfree
    exact ⟨i, Nat.lt_of_succ_lt_succ hi, hfree⟩

/-- With fuel to reach a free value, the search stops at the first one. -/
theorem freeTag_first_free {used : List Byte} {fuel : Nat} {t : Byte}
    (hex : ∃ i, i < fuel ∧ t + BitVec.ofNat 8 i ∉ used) :
    ∃ k, k < fuel ∧ freeTag used fuel t = t + BitVec.ofNat 8 k ∧ t + BitVec.ofNat 8 k ∉ used ∧
      ∀ j, j < k → t + BitVec.ofNat 8 j ∈ used := by
  induction fuel generalizing t with
  | zero =>
    obtain ⟨i, hi, -⟩ := hex
    exact absurd hi (Nat.not_lt_zero i)
  | succ fuel ih =>
    by_cases ht : t ∈ used
    · obtain ⟨k, hk, hfound, hfree, hbefore⟩ := ih (exists_free_of_used ht hex)
      rw [tag_succ_add] at hfound hfree
      refine ⟨k + 1, Nat.succ_lt_succ hk, (freeTag_of_used fuel ht).trans hfound, hfree, fun j hj => ?_⟩
      cases j with
      | zero => rwa [BitVec.add_zero]
      | succ j =>
        rw [← tag_succ_add]
        exact hbefore j (Nat.lt_of_succ_lt_succ hj)
    · have hstart : t + BitVec.ofNat 8 0 = t := BitVec.add_zero t
      exact ⟨0, fuel.succ_pos, (freeTag_of_free fuel ht).trans hstart.symm, hstart.symm ▸ ht,
        fun j hj => absurd hj (Nat.not_lt_zero j)⟩

/-! ## A free value within nine -/

/-- The `n` values from a start, 255 followed by 0. -/
def tagsFrom (t : Byte) (n : Nat) : List Byte := (List.range n).map fun i => t + BitVec.ofNat 8 i

theorem mem_tagsFrom {t x : Byte} {n : Nat} : x ∈ tagsFrom t n ↔ ∃ i, i < n ∧ t + BitVec.ofNat 8 i = x := by
  simp only [tagsFrom, List.mem_map, List.mem_range]

theorem tagsFrom_length (t : Byte) (n : Nat) : (tagsFrom t n).length = n := by
  rw [tagsFrom, List.length_map, List.length_range]

theorem tagsFrom_nodup (t : Byte) {n : Nat} (hn : n ≤ 256) : (tagsFrom t n).Nodup := by
  refine List.pairwise_map.mpr (List.nodup_range.imp_of_mem fun hi hj hne heq => hne ?_)
  rw [List.mem_range] at hi hj
  bv_omega

/-- Fewer tags in use than values tried, and no value tried twice: one of the values is free. -/
theorem exists_free_tag {used : List Byte} (t : Byte) {n : Nat} (hused : used.length < n) (hn : n ≤ 256) :
    ∃ i, i < n ∧ t + BitVec.ofNat 8 i ∉ used := by
  refine Decidable.byContradiction fun hall => ?_
  have hsub : tagsFrom t n ⊆ used := fun x hx => by
    obtain ⟨i, hi, rfl⟩ := mem_tagsFrom.mp hx
    exact Decidable.not_not.mp fun hfree => hall ⟨i, hi, hfree⟩
  have hlen := (tagsFrom_nodup t hn).length_le_of_subset hsub
  rw [tagsFrom_length] at hlen
  omega

/-! ## What a created entry, RUN entry and READ STATUS give -/

theorem State.createPending_entry (s : State) (m : Movement) :
    ∃ e, (s.createPending m).matcher.pendingOut = s.matcher.pendingOut ++ [e] ∧
      e.tag = freeTag (s.matcher.pendingOut.map PendingOut.tag) 9 s.matcher.tagCounter ∧
      (s.createPending m).matcher.tagCounter = e.tag + 1 :=
  ⟨_, rfl, rfl, rfl⟩

@[simp] theorem State.enterRun_matcher (s : State) (cfg : NodeConfig) : (s.enterRun cfg).matcher = Matcher.cleared := rfl

theorem State.statusReply_tagCounter (s : State) : s.statusReply[12]? = some s.matcher.tagCounter := by
  unfold State.statusReply
  simp only [u8, List.append_assoc, List.singleton_append]
  rfl

/-! ## The statement -/

/-- Settles O30: at most eight tags are in use, so the search of nine values ends at a free one. -/
theorem freshTagChosen : Obligations.FreshTagChosen := by
  intro s m hlen
  obtain ⟨e, hpending, htag, hcounter⟩ := s.createPending_entry m
  have hused : (s.matcher.pendingOut.map PendingOut.tag).length < 9 := by
    rw [List.length_map]
    omega
  have hex := exists_free_tag s.matcher.tagCounter hused (by decide)
  obtain ⟨k, hk, hfound, hfree, hbefore⟩ := freeTag_first_free hex
  rw [hfound] at htag
  exact ⟨⟨e, k, hpending, Nat.le_of_lt_succ hk, htag, htag ▸ hfree, hbefore, hcounter⟩,
    fun c => congrArg Matcher.tagCounter (s.enterRun_matcher c), s.statusReply_tagCounter⟩

end Sys2Proof.Machine
end

section
/-! An ALERT request at its transmission start (R108): what the slot's state and last-sent status resolve it to, the frame that
is built of it, and the discard of one that resolves to nothing. -/

namespace Sys2Proof.Machine

open Sys2Proof.Config

/-! ## The resolution -/

theorem alertResolution_of_raised {u : SlotUnit} (h : u.alert = .raised) : alertResolution u = some .raised := by
  simp only [alertResolution, h]

theorem alertResolution_of_normal {u : SlotUnit} (h : u.alert = .normal)
    (hsent : u.lastSent = .raised ∨ u.lastSent = .muted) : alertResolution u = some .cleared := by
  rcases hsent with hsent | hsent <;> simp only [alertResolution, h, hsent]

theorem alertResolution_of_muted {u : SlotUnit} (h : u.alert = .muted) (hsent : u.lastSent = .raised) :
    alertResolution u = some .muted := by
  simp only [alertResolution, h, hsent]

/-- A request is discarded exactly where none of the three resolutions applies. -/
theorem alertResolution_eq_none_iff (u : SlotUnit) :
    alertResolution u = none ↔
      ¬ (u.alert = .raised ∨ u.alert = .normal ∧ (u.lastSent = .raised ∨ u.lastSent = .muted) ∨
        u.alert = .muted ∧ u.lastSent = .raised) := by
  constructor
  · rintro hnone (hraised | ⟨hnormal, hsent⟩ | ⟨hmuted, hsent⟩)
    · cases (alertResolution_of_raised hraised).symm.trans hnone
    · cases (alertResolution_of_normal hnormal hsent).symm.trans hnone
    · cases (alertResolution_of_muted hmuted hsent).symm.trans hnone
  · intro hother
    unfold alertResolution
    split
    next hraised => exact absurd (.inl hraised) hother
    next hnormal hsent => exact absurd (.inr (.inl ⟨hnormal, .inl hsent⟩)) hother
    next hnormal hsent => exact absurd (.inr (.inl ⟨hnormal, .inr hsent⟩)) hother
    next hmuted hsent => exact absurd (.inr (.inr ⟨hmuted, hsent⟩)) hother
    next => rfl

/-! ## The frame -/

theorem State.build_alert_of_resolution {s : State} {i : Slot} {r : Request} {status : AlertStatus} (hkey : r.key = .alert i)
    (hres : alertResolution (s.slot i) = some status) :
    s.build r = some (.alert (BitVec.ofNat 24 (slotOf s.running i).article) (alertStatusCode status)
      (BitVec.ofNat 16 (min 65535 (s.combined i))) (BitVec.ofNat 16 (s.slot i).holding)
      (BitVec.ofNat 16 (slotOf s.running i).reorderPoint)) := by
  simp only [State.build, hkey, hres, Option.map_some]

theorem State.build_alert_eq_none_iff (s : State) {i : Slot} {r : Request} (hkey : r.key = .alert i) :
    s.build r = none ↔ alertResolution (s.slot i) = none := by
  simp only [State.build, hkey, Option.map_eq_none_iff]

/-! ## The discard -/

/-- A first request that builds no frame leaves the queue, and the start goes on with the rest (R143). -/
theorem State.startNext_of_unbuilt {s : State} {r : Request} (hfirst : firstWaiting s.queue.requests = some r)
    (hbuild : s.build r = none) (n : Nat) : s.startNext (n + 1) = State.startNext n (s.dropRequest r.key) := by
  simp only [State.startNext, hfirst, hbuild]

/-! ## The statement -/

/-- Settles O44: the three resolutions give the frame's status, and every other slot builds none, so that its request is
dropped. -/
theorem alertRequestsResolve : Obligations.AlertRequestsResolve := by
  intro s i r hkey
  refine ⟨?_, (s.build_alert_eq_none_iff hkey).trans (alertResolution_eq_none_iff _), fun hbuild hfirst n => ?_⟩
  · rintro a rfl c rfl
    exact ⟨fun h => State.build_alert_of_resolution hkey (alertResolution_of_raised h),
      fun h hsent => State.build_alert_of_resolution hkey (alertResolution_of_normal h hsent),
      fun h hsent => State.build_alert_of_resolution hkey (alertResolution_of_muted h hsent)⟩
  · refine ⟨_, rfl, ?_⟩
    rw [State.startNext_of_unbuilt hfirst hbuild, hkey]
    rfl

end Sys2Proof.Machine
end

section
/-! What one change of the state keeps, whichever block makes it: every invariant of the model, the start-up block, the
configuration in force and the timebase; and the count units but for the lane of a sample event. The elementary changes are shown
to keep them one by one, so that a command's work needs only be taken apart into such changes. -/

namespace Sys2Proof.Machine

open Sys2Proof.Config

/-! ## The invariants over the parts of the state that they speak of -/

theorem LinkSound.congr {s t : State} (h : t.link = s.link) (hs : LinkSound s) : LinkSound t := by
  obtain ⟨health, able, flight, count, buffer, timer, bits, between⟩ := hs
  constructor <;> rw [h] <;> assumption

theorem ListsSound.congr {s t : State} (hm : t.matcher = s.matcher) (hr : t.running = s.running) (hs : ListsSound s) :
    ListsSound t := by
  obtain ⟨pending, tags, heard, offers, peers⟩ := hs
  constructor <;> rw [hm]
  · exact pending
  · exact tags
  · exact heard
  · exact offers
  · rw [hr]; exact peers

theorem QueueSound.congr {s t : State} (hq : t.queue.requests = s.queue.requests) (hm : t.matcher = s.matcher)
    (hr : t.running = s.running) (hs : QueueSound s) : QueueSound t := by
  obtain ⟨lists, keys, claims, offers⟩ := hs
  refine ⟨lists.congr hm hr, ?_, ?_, ?_⟩ <;> rw [hq]
  · exact keys
  · exact claims
  · rw [hm]; exact offers

theorem ConfigSound.congr {s t : State} (hw : t.working = s.working) (hr : t.running = s.running)
    (hu : t.startUp = s.startUp) (hp : t.port.capture = s.port.capture) (hs : ConfigSound s) : ConfigSound t := by
  obtain ⟨working, running, image, capture⟩ := hs
  refine ⟨hw ▸ working, hr ▸ running, ?_, ?_⟩
  · rw [hu]; exact image
  · rw [hp]; exact capture

theorem CarriersSound.congr {s t : State} (hc : t.carriers = s.carriers) (hr : t.running = s.running)
    (hs : CarriersSound s) : CarriersSound t := by
  obtain ⟨single, peers, ages⟩ := hs
  refine ⟨?_, ?_, ?_⟩ <;> rw [hc]
  · exact single
  · rw [hr]; exact peers
  · exact ages

/-! ## What a change keeps -/

/-- Two lanes' count units differ in nothing but the tallies. -/
def SameCount (u v : LaneUnit) : Prop := v.counting = { u.counting with tallies := v.counting.tallies }

/-- A SILENCED link stays so, with its conflict flag, and sends nothing (R134). -/
def StaysSilenced (j k : Link) : Prop :=
  j.state = .silenced → j.flight = none →
    k.state = .silenced ∧ k.addressConflict = j.addressConflict ∧ k.flight = none ∧ k.driver = j.driver ∧
      k.quarantineTimer = j.quarantineTimer

/-- What a change keeps that neither restarts the part nor enters CONFIGURING or RUN, the transmit queue and the carrier table
left out; `own` is the lane whose count unit it may change beyond the tallies. -/
structure KeepsUnits (own : Option Lane) (s t : State) : Prop where
  startUp : t.startUp = s.startUp := by rfl
  running : t.running = s.running := by rfl
  pending : t.pending = s.pending := by rfl
  now : t.now = s.now := by rfl
  bounded : LanesBounded s → LanesBounded t := by exact id
  counts : ∀ l, own ≠ some l → SameCount (s.lane l) (t.lane l) := by exact fun _ _ => rfl
  timed : AlertsTimed s → AlertsTimed t := by exact id
  link : LinkSound s → LinkSound t := by exact LinkSound.congr rfl
  silenced : StaysSilenced s.link t.link := by exact fun h g => ⟨h, rfl, g, rfl, rfl⟩
  config : ConfigSound s → ConfigSound t := by exact ConfigSound.congr rfl rfl rfl rfl
  shown : IndicatorsShown s → IndicatorsShown t := by exact id

/-- All that such a change keeps. -/
structure Keeps (own : Option Lane) (s t : State) : Prop extends KeepsUnits own s t where
  queue : QueueSound s → QueueSound t := by exact QueueSound.congr rfl rfl rfl
  carriers : CarriersSound s → CarriersSound t := by exact CarriersSound.congr rfl rfl

variable {own : Option Lane}

theorem Keeps.refl (s : State) : Keeps own s s where

theorem StaysSilenced.trans {i j k : Link} (h : StaysSilenced i j) (g : StaysSilenced j k) : StaysSilenced i k := by
  intro hs hf
  obtain ⟨h1, h2, h3, h4, h5⟩ := h hs hf
  obtain ⟨g1, g2, g3, g4, g5⟩ := g h1 h3
  exact ⟨g1, g2.trans h2, g3, g4.trans h4, g5.trans h5⟩

theorem KeepsUnits.trans {s t u : State} (h : KeepsUnits own s t) (g : KeepsUnits own t u) : KeepsUnits own s u where
  startUp := g.startUp.trans h.startUp
  running := g.running.trans h.running
  pending := g.pending.trans h.pending
  now := g.now.trans h.now
  bounded := g.bounded ∘ h.bounded
  counts l hl := by
    have h1 := h.counts l hl
    have g1 := g.counts l hl
    unfold SameCount at *
    rw [g1, h1]
  timed := g.timed ∘ h.timed
  link := g.link ∘ h.link
  silenced := h.silenced.trans g.silenced
  config := g.config ∘ h.config
  shown := g.shown ∘ h.shown

theorem Keeps.trans {s t u : State} (h : Keeps own s t) (g : Keeps own t u) : Keeps own s u where
  toKeepsUnits := h.toKeepsUnits.trans g.toKeepsUnits
  queue := g.queue ∘ h.queue
  carriers := g.carriers ∘ h.carriers

/-- A change that may touch no count unit is one that may touch a lane's. -/
theorem Keeps.mono {s t : State} (h : Keeps none s t) : Keeps own s t :=
  { h with counts := fun l _ => h.counts l (by simp) }

/-! ## Blocks that no invariant of RUN speaks of -/

theorem keeps_frontEnd (s : State) (f : FrontEnd) : Keeps own s { s with frontEnd := f } where
theorem keeps_settlingIn (s : State) (x : SettlingIn) : Keeps own s { s with settlingIn := x } where
theorem keeps_pins (s : State) (p : Pins) : Keeps own s { s with pins := p } where
theorem keeps_presence (s : State) (t : Timer) (b : Bool) :
    Keeps own s { s with queue := { s.queue with presenceTimer := t, restartFlag := b } } where

/-- The port may change in all but a capture in progress. -/
theorem keeps_port (s : State) (p : Port) (h : p.capture = s.port.capture ∨ p.capture = none) :
    Keeps own s { s with port := p } where
  config hs := by
    refine ⟨hs.working, hs.running, hs.image, fun c hc => ?_⟩
    rcases h with h | h
    · exact hs.capture c (h ▸ hc)
    · exact absurd (h.symm.trans hc) (by simp)

/-! ## Lanes -/

/-- A lane's unit changes within its ranges, with its notice flags and its indicator as they were. -/
structure LaneAct (own : Option Lane) (l : Lane) (u v : LaneUnit) : Prop where
  bounded : u.bounded → v.bounded
  notice : v.notice = { u.notice with timer := v.notice.timer }
  counts : own ≠ some l → SameCount u v

theorem LaneAct.refl (l : Lane) (u : LaneUnit) : LaneAct own l u u := ⟨id, rfl, fun _ => rfl⟩

theorem State.alertOfLane_congr {s t : State} (hr : t.running = s.running)
    (hs : ∀ i, (t.slot i).alert = (s.slot i).alert) (l : Lane) : t.alertOfLane l = s.alertOfLane l := by
  unfold State.alertOfLane
  rw [hr]
  split
  · exact hs _
  · rfl

/-- The indicator is derived from the notice flags, the alert state of the lane's article and the configuration in force. -/
theorem State.indicatorOf_congr {s t : State} {l : Lane} (hn : t.startUp.node = s.startUp.node) (hr : t.running = s.running)
    (hf : ∃ i x, (t.lane l).notice = { (s.lane l).notice with timer := x, indicator := i })
    (ha : laneEnabled s.running l = true → t.alertOfLane l = s.alertOfLane l) : t.indicatorOf l = s.indicatorOf l := by
  obtain ⟨i, x, hf⟩ := hf
  unfold State.indicatorOf
  rw [hf, hn, hr]
  by_cases h : laneEnabled s.running l = true
  · rw [ha h]
  · simp [h]

theorem IndicatorsShown.of_same {s t : State} (hn : t.startUp.node = s.startUp.node) (hr : t.running = s.running)
    (hl : ∀ l, (t.lane l).notice = { (s.lane l).notice with timer := (t.lane l).notice.timer })
    (hs : ∀ i, (t.slot i).alert = (s.slot i).alert) (h : IndicatorsShown s) : IndicatorsShown t := by
  intro l
  rw [State.indicatorOf_congr hn hr ⟨_, _, hl l⟩ fun _ => State.alertOfLane_congr hr hs l, hl l]
  exact h l

theorem keeps_lanes (s : State) (v : Vector LaneUnit 4) (h : ∀ l, LaneAct own l (s.lane l) v[l.idx]) :
    Keeps own s { s with lanes := v } where
  bounded hs l := (h l).bounded (hs l)
  counts l hl := (h l).counts hl
  shown := IndicatorsShown.of_same rfl rfl (fun l => (h l).notice) fun _ => rfl

theorem State.setLane_keeps (s : State) (l : Lane) (u : LaneUnit) (h : LaneAct own l (s.lane l) u) :
    Keeps own s (s.setLane l u) := by
  refine keeps_lanes s _ fun m => ?_
  show LaneAct own m (s.lane m) ((s.setLane l u).lane m)
  by_cases hm : m = l
  · subst hm; rw [State.setLane_lane_self]; exact h
  · rw [State.setLane_lane_of_ne _ _ hm]; exact LaneAct.refl _ _

theorem State.mapLanes_keeps (s : State) (f : Lane → LaneUnit → LaneUnit)
    (h : ∀ l, LaneAct own l (s.lane l) (f l (s.lane l))) : Keeps own s (s.mapLanes f) := by
  refine keeps_lanes s _ fun m => ?_
  show LaneAct own m (s.lane m) ((s.mapLanes f).lane m)
  rw [State.mapLanes_lane]
  exact h m

/-- A settler may change in all but the length of its window. -/
theorem LaneAct.settler {l : Lane} {u : LaneUnit} {t : Settler} (h : u.settler.window.length ≤ 8 → t.window.length ≤ 8) :
    LaneAct own l u { u with settler := t } where
  bounded hu := { hu with window := h hu.window }
  notice := rfl
  counts _ := rfl

theorem State.setSettler_keeps (s : State) (l : Lane) (t : Settler)
    (h : (s.lane l).settler.window.length ≤ 8 → t.window.length ≤ 8) : Keeps own s (s.setSettler l t) :=
  s.setLane_keeps l _ (LaneAct.settler h)

theorem tallyUp_le (t n : Nat) : tallyUp t n ≤ 65535 := Nat.min_le_left _ _

/-- The five changes of a lane's tallies keep them within their counters (R52). -/
structure TallyAct (f : Tallies → Tallies) : Prop where
  bounded : ∀ t : Tallies, t.bounded → (f t).bounded

theorem tallyAct_addPicks (n : Nat) : TallyAct (Tallies.addPicks n) :=
  ⟨fun _ ⟨_, h2, h3, h4, h5⟩ => ⟨tallyUp_le _ _, h2, h3, h4, h5⟩⟩
theorem tallyAct_addRelocatedOut (n : Nat) : TallyAct (Tallies.addRelocatedOut n) :=
  ⟨fun _ ⟨h1, _, h3, h4, h5⟩ => ⟨h1, tallyUp_le _ _, h3, h4, h5⟩⟩
theorem tallyAct_addMatchedIn (n : Nat) : TallyAct (Tallies.addMatchedIn n) :=
  ⟨fun _ ⟨h1, h2, _, h4, h5⟩ => ⟨h1, h2, tallyUp_le _ _, h4, h5⟩⟩
theorem tallyAct_addRestockIn (n : Nat) : TallyAct (Tallies.addRestockIn n) :=
  ⟨fun _ ⟨h1, h2, h3, _, h5⟩ => ⟨h1, h2, h3, tallyUp_le _ _, h5⟩⟩
theorem tallyAct_addForeignSeen : TallyAct Tallies.addForeignSeen :=
  ⟨fun _ ⟨h1, h2, h3, h4, _⟩ => ⟨h1, h2, h3, h4, tallyUp_le _ _⟩⟩
theorem tallyAct_reclassify (n : Nat) : TallyAct (Tallies.reclassify n) :=
  ⟨fun _ ⟨h1, h2, h3, _, h5⟩ => ⟨h1, h2, Nat.le_trans (Nat.sub_le _ _) h3, tallyUp_le _ _, h5⟩⟩

theorem State.setTallies_keeps (s : State) (l : Lane) {f : Tallies → Tallies} (h : TallyAct f) :
    Keeps own s (s.setTallies l f) :=
  s.setLane_keeps l _ ⟨fun hu => { hu with tallies := h.bounded _ hu.tallies }, rfl, fun _ => rfl⟩

/-! ## Notices and alert states -/

theorem State.rederiveIndicators_lane_eq (s : State) (ls : List Lane) (l : Lane) :
    (s.rederiveIndicators ls).lane l =
      if l ∈ ls then { s.lane l with notice := { (s.lane l).notice with indicator := s.indicatorOf l } } else s.lane l :=
  State.mapLanes_lane _ _ l

theorem State.rederiveIndicators_indicatorOf (s : State) (ls : List Lane) (l : Lane) :
    (s.rederiveIndicators ls).indicatorOf l = s.indicatorOf l := by
  refine State.indicatorOf_congr rfl rfl ?_ fun _ => rfl
  rw [State.rederiveIndicators_lane_eq]
  split
  · exact ⟨_, (s.lane l).notice.timer, rfl⟩
  · exact ⟨(s.lane l).notice.indicator, (s.lane l).notice.timer, rfl⟩

/-- A change of flags and alert states is shown when the indicators of all lanes that it concerns are derived anew. -/
theorem State.rederiveIndicators_shown (s : State) (ls : List Lane)
    (h : ∀ l, l ∉ ls → (s.lane l).notice.indicator = s.indicatorOf l) : IndicatorsShown (s.rederiveIndicators ls) := by
  intro l
  rw [State.rederiveIndicators_indicatorOf, State.rederiveIndicators_lane_eq]
  split
  · rfl
  · rename_i hl; exact h l hl

theorem SameButIndicator.bounded {u v : LaneUnit} (h : SameButIndicator u v) (hu : u.bounded) : v.bounded := by
  rw [h]; exact { hu with }

theorem SameButIndicator.sameCount {u v : LaneUnit} (h : SameButIndicator u v) : SameCount u v := by
  rw [h]; exact rfl

theorem LaneNotice.retime_eq (n : LaneNotice) (d : IndicatorDrive) : { n.retime with indicator := d } = noticeAfter n d := by
  unfold LaneNotice.retime noticeAfter LaneNotice.any
  cases n.timer <;> rfl

/-- A changed notice flag takes the lane's notice timer and its indicator with it. -/
theorem State.changeNotice_lane_self (s : State) (l : Lane) (f : LaneNotice → LaneNotice) :
    (s.changeNotice l f).lane l =
      { s.lane l with notice := noticeAfter (f (s.lane l).notice) ((s.changeNotice l f).indicatorOf l) } := by
  have hd := State.rederiveIndicators_indicatorOf ((s.setNotice l (f (s.lane l).notice).retime).place (.notice l)) [l] l
  have hl := State.rederiveIndicators_lane_eq ((s.setNotice l (f (s.lane l).notice).retime).place (.notice l)) [l] l
  rw [if_pos (List.mem_singleton.mpr rfl), ← hd, State.place_lane, State.setNotice, State.setLane_lane_self] at hl
  rw [← LaneNotice.retime_eq]
  exact hl

theorem State.changeNotice_lane_of_ne (s : State) {l m : Lane} (f : LaneNotice → LaneNotice) (h : m ≠ l) :
    (s.changeNotice l f).lane m = s.lane m := by
  refine (State.rederiveIndicators_lane_eq _ _ _).trans ?_
  rw [if_neg (by simpa using h), State.place_lane, State.setNotice, State.setLane_lane_of_ne _ _ h]

/-! ## Requests -/

/-- Matcher and queue may change where they stay sound together. -/
theorem keeps_lists (s : State) (m : Matcher) (q : List Request)
    (h : QueueSound s → QueueSound { s with matcher := m, queue := { s.queue with requests := q } }) :
    Keeps own s { s with matcher := m, queue := { s.queue with requests := q } } where
  queue := h

/-- A placement of a kind without limits of its own keeps the queue sound (R139). -/
theorem QueueSound.placeIn {s : State} {k : RequestKey} {type : Option ClaimType} (hs : QueueSound s)
    (ho : ∀ tag, k ≠ .offer tag) (hc : keyKind k ≠ 1 ∨ s.claimRoom = true) :
    QueueSound { s with queue := { s.queue with requests := placeIn s.now k type s.queue.requests } } where
  lists := ListsSound.congr (s := s) rfl rfl hs.lists
  keys := placeIn_nodup hs.keys
  claims := by
    rcases hc with hc | hc
    · exact Nat.le_trans (Nat.le_of_eq (claimsHeld_placeIn_other _ hc)) hs.claims
    · have hroom : claimsHeld s.queue.requests < 8 := of_decide_eq_true hc
      exact Nat.le_trans (claimsHeld_placeIn_le _) hroom
  offers r hr tag hk := by
    rcases mem_placeIn hr with ⟨x, hx, rfl⟩ | ⟨-, rfl⟩
    · split at hk
      · rename_i hxk
        rw [Request.renew_key, hxk] at hk
        exact absurd hk (ho tag)
      · rename_i hxk
        rw [if_neg hxk]
        exact hs.offers x hx tag hk
    · exact absurd hk (ho tag)

theorem State.place_keeps (s : State) (k : RequestKey) (ho : ∀ tag, k ≠ .offer tag) (hc : keyKind k ≠ 1) :
    Keeps own s (s.place k) :=
  keeps_lists s s.matcher _ fun hs => hs.placeIn ho (.inl hc)

theorem State.placeClaim_keeps (s : State) (station : Nat) (tag : Byte) (type : ClaimType) (h : s.claimRoom = true) :
    Keeps own s (s.placeClaim station tag type) :=
  keeps_lists s s.matcher _ fun hs => hs.placeIn (by simp) (.inr h)

/-- Requests that leave the queue leave it sound, as long as no entry does. -/
theorem QueueSound.filter {s : State} (hs : QueueSound s) (p : Request → Bool) :
    QueueSound { s with queue := { s.queue with requests := s.queue.requests.filter p } } where
  lists := ListsSound.congr (s := s) rfl rfl hs.lists
  keys := hs.keys.sublist (List.filter_sublist.map _)
  claims := Nat.le_trans (List.Sublist.countP_le List.filter_sublist) hs.claims
  offers r hr := hs.offers r (List.mem_filter.mp hr).1

theorem Flight.detachFrom_eq (k : RequestKey) (held : Bool) (f : Flight) :
    f.detachFrom k held = { f with detached := (f.detachFrom k held).detached } := by
  unfold Flight.detachFrom; split <;> rfl

/-- A detachment leaves the link as it is but for the mark at its frame in flight. -/
theorem keeps_detach (s : State) (k : RequestKey) (held : Bool) :
    Keeps own s { s with link := { s.link with flight := s.link.flight.map (Flight.detachFrom k held) } } where
  link hs := { hs with flight := fun h => hs.flight (by simpa using h) }
  silenced h g := ⟨h, rfl, by simp [g], rfl, rfl⟩

theorem State.withdraw_keeps (s : State) (k : RequestKey) : Keeps own s (s.withdraw k) :=
  (keeps_lists s s.matcher _ fun hs => hs.filter fun r => decide (r.key ≠ k)).trans (keeps_detach _ k _)

/-! ## Slots -/

theorem State.setSlot_timed {s : State} {i : Slot} {u : SlotUnit} (h : (s.slot i).timed → u.timed) (hs : AlertsTimed s) :
    AlertsTimed (s.setSlot i u) := by
  intro j
  by_cases hj : j = i
  · subst hj; rw [State.setSlot_slot_self]; exact h (hs j)
  · rw [State.setSlot_slot_of_ne _ _ hj]; exact hs j

/-- A slot's unit may change with its alert state as it was. -/
theorem State.setSlot_keeps (s : State) (i : Slot) (u : SlotUnit) (ha : u.alert = (s.slot i).alert)
    (ht : (s.slot i).timed → u.timed) : Keeps own s (s.setSlot i u) where
  timed := State.setSlot_timed ht
  shown := IndicatorsShown.of_same rfl rfl (fun _ => rfl) fun j => by
    by_cases hj : j = i
    · subst hj; rw [State.setSlot_slot_self]; exact ha
    · rw [State.setSlot_slot_of_ne _ _ hj]

theorem articleSlot_article {cfg : NodeConfig} {article : Nat} {i : Slot} (h : articleSlot cfg article = some i) :
    (slotOf cfg i).article = article := by
  unfold articleSlot at h
  split at h
  · cases h
  · have := List.find?_some h
    simp only [Bool.and_eq_true, decide_eq_true_eq] at this
    exact this.1

/-- A slot's alert state concerns the indicators of the enabled lanes of its article only. -/
theorem State.indicatorOf_setSlot_of_not_mem (s : State) {i : Slot} (u : SlotUnit) {l : Lane}
    (h : l ∉ lanesOfSlot s.running i) : (s.setSlot i u).indicatorOf l = s.indicatorOf l := by
  refine State.indicatorOf_congr rfl rfl ⟨(s.lane l).notice.indicator, (s.lane l).notice.timer, rfl⟩ fun hl => ?_
  unfold State.alertOfLane
  cases ha : articleSlot s.running (articleOfLane s.running l) with
  | none => simp [ha]
  | some j =>
    have hj : j ≠ i := by
      rintro rfl
      refine h (List.mem_filter.mpr ⟨List.mem_filter.mpr ⟨by cases l <;> decide, hl⟩, ?_⟩)
      exact decide_eq_true (articleSlot_article ha).symm
    simp only [State.setSlot_running, ha, State.setSlot_slot_of_ne _ _ hj]

theorem State.setSlot_place_comm (s : State) (i : Slot) (u : SlotUnit) (k : RequestKey) :
    (s.setSlot i u).place k = (s.place k).setSlot i u := rfl

/-- A change of alert items is a placement where one is due, the slot set, and the indicators derived anew where the alert
state has changed. -/
theorem State.changeAlert_eq (s : State) (i : Slot) (u : SlotUnit) (request : Bool) : s.changeAlert i u request =
    if u.alert = (s.slot i).alert then (if request = true then s.place (.alert i) else s).setSlot i u
    else ((if request = true then s.place (.alert i) else s).setSlot i u).rederiveIndicators (lanesOfSlot s.running i) := by
  unfold State.changeAlert
  cases request <;> rfl

theorem State.changeAlert_keeps (s : State) (i : Slot) (u : SlotUnit) (request : Bool) (ht : (s.slot i).timed → u.timed) :
    Keeps own s (s.changeAlert i u request) := by
  rw [State.changeAlert_eq]
  have hplace : Keeps own s (if request = true then s.place (.alert i) else s) := by
    split
    · exact s.place_keeps _ (by simp) (by simp [keyKind])
    · exact Keeps.refl s
  have hslot : (if request = true then s.place (.alert i) else s).slot i = s.slot i := by split <;> rfl
  have hrun := hplace.running
  revert hplace hslot hrun
  generalize (if request = true then s.place (.alert i) else s) = v
  intro hplace hslot hrun
  split
  · rename_i ha
    exact hplace.trans (v.setSlot_keeps i u (hslot ▸ ha) (hslot ▸ ht))
  · refine hplace.trans ?_
    have hlane := State.rederiveIndicators_lane (v.setSlot i u) (lanesOfSlot s.running i)
    exact
      { bounded := fun hb l => (hlane l).bounded (hb l)
        counts := fun l _ => (hlane l).sameCount
        timed := State.setSlot_timed (hslot ▸ ht)
        shown := fun hv => State.rederiveIndicators_shown _ _ fun l hl =>
          (hv l).trans (State.indicatorOf_setSlot_of_not_mem v u (hrun ▸ hl)).symm }

theorem State.changeNotice_keeps (s : State) (l : Lane) (f : LaneNotice → LaneNotice) :
    Keeps own s (s.changeNotice l f) := by
  have hlane : ∀ m, ∃ n, (s.changeNotice l f).lane m = { s.lane m with notice := n } := by
    intro m
    by_cases hm : m = l
    · subst hm; exact ⟨_, s.changeNotice_lane_self m f⟩
    · exact ⟨_, s.changeNotice_lane_of_ne f hm⟩
  have hqueue : QueueSound s → QueueSound (s.changeNotice l f) := fun hs =>
    QueueSound.congr (s := s.place (.notice l)) rfl rfl rfl
      ((s.place_keeps (own := none) (.notice l) (by simp) (by simp [keyKind])).queue hs)
  exact
    { bounded := fun hb m => by
        obtain ⟨n, hn⟩ := hlane m
        rw [hn]; exact { hb m with }
      counts := fun m _ => by
        obtain ⟨n, hn⟩ := hlane m
        rw [hn]; exact rfl
      queue := hqueue
      shown := fun hv m => by
        by_cases hm : m = l
        · subst hm; rw [State.changeNotice_lane_self]; rfl
        · rw [State.changeNotice_lane_of_ne _ _ hm, hv m]
          refine (State.indicatorOf_congr (s := s) (t := s.changeNotice l f) rfl rfl ⟨(s.lane m).notice.indicator, (s.lane m).notice.timer, ?_⟩ fun _ => rfl).symm
          rw [State.changeNotice_lane_of_ne _ _ hm] }

end Sys2Proof.Machine
end

section
/-! That the shared operations of the blocks keep what a change keeps: evaluations, reports, the carrier table, the matcher's
lists, the scan mode and holds. -/

namespace Sys2Proof.Machine

open Sys2Proof.Config

variable {own : Option Lane}

/-! ## Alert states and their timers (R98, R99, R102 to R107) -/

/-- No mute runs for a slot that is not MUTED, and so on: the timers that do not belong to its alert state. -/
theorem SlotUnit.timed.mute_off {u : SlotUnit} (h : u.timed) (ha : u.alert ≠ .muted) : u.muteTimer.isRunning = false := by
  simpa using mt h.muting.mp ha

theorem SlotUnit.toNormal_timed (u : SlotUnit) : u.toNormal.timed := by
  constructor <;> simp [SlotUnit.toNormal, Timer.isRunning]

theorem SlotUnit.toRaised_timed {u : SlotUnit} (h : u.timed) (ha : u.alert ≠ .muted) : u.toRaised.timed := by
  constructor <;> simp [SlotUnit.toRaised, Timer.isRunning]
  simpa [Timer.isRunning] using h.mute_off ha

theorem SlotUnit.toFollowing_timed {u : SlotUnit} (h : u.timed) (ha : u.alert ≠ .muted) : u.toFollowing.timed := by
  constructor <;> simp [SlotUnit.toFollowing, Timer.isRunning]
  simpa [Timer.isRunning] using h.mute_off ha

theorem SlotUnit.toMuted_timed (u : SlotUnit) (time : Nat) : (u.toMuted time).timed := by
  constructor <;> simp [SlotUnit.toMuted, Timer.isRunning]

/-- A slot in NORMAL has no timer running, so DEFERRED, which owns none, may follow it. -/
theorem SlotUnit.toDeferred_timed {u : SlotUnit} (h : u.timed) (ha : u.alert = .normal ∨ u.alert = .deferred) :
    SlotUnit.timed { u with alert := .deferred } := by
  obtain ⟨h1, h2, h3⟩ := h
  rcases ha with ha | ha <;> rw [ha] at h1 h2 h3 <;> constructor <;> simp_all

theorem shortSide_timed (deferred leads : Bool) {u : SlotUnit} (h : u.timed) : (shortSide deferred leads u).1.timed := by
  have hshort : u.alert = .normal ∨ u.alert = .deferred →
      (if deferred = true then ({ u with alert := .deferred }, false)
        else if leads = true then (u.toRaised, true) else (u.toFollowing, false) : SlotUnit × Bool).1.timed := by
    intro ha
    have hm : u.alert ≠ .muted := by rcases ha with ha | ha <;> simp [ha]
    split
    · exact SlotUnit.toDeferred_timed h ha
    · split
      · exact SlotUnit.toRaised_timed h hm
      · exact SlotUnit.toFollowing_timed h hm
  unfold shortSide
  split
  next => exact h
  next => exact h
  next ha =>
    split
    · exact SlotUnit.toRaised_timed h (by simp [ha])
    · exact h
  next ha => exact hshort (.inl ha)
  next ha => exact hshort (.inr ha)

theorem evaluation_timed (sr : SlotRecord) (combined : Nat) (deferred leads : Bool) {u : SlotUnit} (h : u.timed) :
    (evaluation sr combined deferred leads u).1.timed := by
  unfold evaluation
  split
  · exact u.toNormal_timed
  · split
    · exact h
    · exact shortSide_timed deferred leads h

theorem State.evaluate_keeps (s : State) (i : Slot) : Keeps own s (s.evaluate i) := by
  unfold State.evaluate
  split
  · exact s.changeAlert_keeps i _ _ (evaluation_timed _ _ _ _)
  · exact Keeps.refl s

theorem State.evaluateAll_keeps (s : State) (owed : List Slot) : Keeps own s (s.evaluateAll owed) := by
  unfold State.evaluateAll
  generalize allSlots.filter (fun i => owed.contains i) = is
  induction is generalizing s with
  | nil => exact Keeps.refl s
  | cons i is ih => exact (s.evaluate_keeps i).trans (ih (s.evaluate i))

theorem State.endMute_keeps (s : State) (i : Slot) : Keeps own s (s.endMute i) :=
  s.changeAlert_keeps i _ _ fun _ => SlotUnit.toNormal_timed _

/-! ## The stock view (R87, R89, R91) -/

theorem State.placeStock_keeps (s : State) (i : Slot) (due : Bool) : Keeps own s (s.placeStock i due) := by
  unfold State.placeStock
  split
  · exact s.place_keeps _ (by simp) (by simp [keyKind])
  · exact Keeps.refl s

theorem State.reportSlot_keeps (s : State) (i : Slot) : Keeps own s (s.reportSlot i) :=
  (s.setSlot_keeps i ((s.slot i).reported (s.holdingOf i) (s.readyOf i) (s.uncertainOf i)) rfl fun h => { h with }).trans
    (State.placeStock_keeps _ i _)

theorem State.reportLane_keeps (s : State) (l : Lane) : Keeps own s (s.reportLane l).1 := by
  unfold State.reportLane
  split
  · exact s.reportSlot_keeps _
  · exact Keeps.refl s

theorem State.rederiveUncertain_keeps (s : State) (l : Lane) : Keeps own s (s.rederiveUncertain l) := by
  unfold State.rederiveUncertain
  split
  · dsimp only
    split
    · exact Keeps.refl s
    · rename_i i _ _
      exact ((s.setSlot_keeps i { s.slot i with uncertain := s.uncertainOf i } rfl fun h => { h with }).trans
        (State.placeStock_keeps _ i _)).trans (State.evaluate_keeps _ i)
  · exact Keeps.refl s

theorem State.placeReadyStocks_keeps (s : State) : Keeps own s s.placeReadyStocks := by
  unfold State.placeReadyStocks
  generalize articleSlots s.running = is
  induction is generalizing s with
  | nil => exact Keeps.refl s
  | cons i is ih => exact (s.placeStock_keeps i _).trans (ih _)

/-! ## The carrier table (R83, R84, R86) -/

/-- The carrier table may change where it stays sound. -/
theorem keeps_carriers (s : State) (v : Vector (Option CarrierEntry) 32)
    (h : CarriersSound s → CarriersSound { s with carriers := v }) : Keeps own s { s with carriers := v } where
  carriers := h

/-- The entries of a station after a rule: each comes from an entry of the same place. -/
theorem State.mapStation_some {s : State} {station : Nat} {f : CarrierEntry → Option CarrierEntry} {p : Fin 32}
    {e : CarrierEntry} (h : (s.mapStation station f).carriers[p] = some e) :
    ∃ x, s.carriers[p] = some x ∧ (x.station = station ∧ f x = some e ∨ x.station ≠ station ∧ x = e) := by
  rw [State.mapStation_get] at h
  obtain ⟨x, hx, hf⟩ := Option.bind_eq_some_iff.mp h
  refine ⟨x, hx, ?_⟩
  split at hf
  · exact .inl ⟨‹_›, hf⟩
  · exact .inr ⟨‹_›, Option.some.inj hf⟩

/-- A rule that changes at most the age and the band of the entries of one station, all alike, keeps the table sound. -/
theorem State.mapStation_keeps (s : State) (station : Nat) (f : CarrierEntry → Option CarrierEntry)
    (hf : ∀ x e, f x = some e → e.station = x.station ∧ e.slot = x.slot)
    (ha : ∀ x y e d, x.age = y.age → x.band = y.band → f x = some e → f y = some d → e.age = d.age ∧ e.band = d.band) :
    Keeps own s (s.mapStation station f) := by
  refine keeps_carriers s _ fun hs => ?_
  have hfrom : ∀ {p : Fin 32} {e : CarrierEntry}, (s.mapStation station f).carriers[p] = some e →
      ∃ x, s.carriers[p] = some x ∧ x.station = e.station ∧ x.slot = e.slot ∧
        (x.station = station ∧ f x = some e ∨ x.station ≠ station ∧ x = e) := by
    intro p e h
    obtain ⟨x, hx, h⟩ := State.mapStation_some h
    refine ⟨x, hx, ?_, ?_, h⟩
    all_goals rcases h with ⟨-, h⟩ | ⟨-, rfl⟩
    · exact (hf x e h).1.symm
    · rfl
    · exact (hf x e h).2.symm
    · rfl
  refine ⟨fun p q e d he hd hst hsl => ?_, fun p e he => ?_, fun p q e d he hd hst => ?_⟩
  · obtain ⟨x, hx, hx1, hx2, -⟩ := hfrom he
    obtain ⟨y, hy, hy1, hy2, -⟩ := hfrom hd
    exact hs.single p q x y hx hy (by rw [hx1, hy1, hst]) (by rw [hx2, hy2, hsl])
  · obtain ⟨x, hx, hx1, -⟩ := hfrom he
    rw [← hx1]
    exact hs.peers p x hx
  · obtain ⟨x, hx, hx1, -, hx3⟩ := hfrom he
    obtain ⟨y, hy, hy1, -, hy3⟩ := hfrom hd
    obtain ⟨hage, hband⟩ := hs.ages p q x y hx hy (by rw [hx1, hy1, hst])
    rcases hx3 with ⟨h1, h1'⟩ | ⟨h1, rfl⟩ <;> rcases hy3 with ⟨h2, h2'⟩ | ⟨h2, rfl⟩
    · exact ha x y e d hage hband h1' h2'
    · exact absurd (by rw [← h1, hx1, hst]) h2
    · exact absurd (by rw [← h2, hy1, hst]) h1
    · exact ⟨hage, hband⟩

theorem State.refreshStation_keeps (s : State) (station : Nat) : Keeps own s (s.refreshStation station).1 :=
  s.mapStation_keeps station _ (by rintro x e ⟨⟩; exact ⟨rfl, rfl⟩) (by rintro x y e d - - ⟨⟩ ⟨⟩; exact ⟨rfl, rfl⟩)

/-! ## The matcher's lists -/

theorem eq_of_mem_of_nodup_map {α β : Type} {f : α → β} {es : List α} (h : (es.map f).Nodup) {x y : α} (hx : x ∈ es)
    (hy : y ∈ es) (hxy : f x = f y) : x = y := by
  induction es with
  | nil => cases hx
  | cons z zs ih =>
    rw [List.map_cons, List.nodup_cons] at h
    obtain ⟨hz, hzs⟩ := h
    rcases List.mem_cons.mp hx with hxz | hxt <;> rcases List.mem_cons.mp hy with hyz | hyt
    · rw [hxz, hyz]
    · exact absurd (List.mem_map.mpr ⟨y, hyt, by rw [← hxy, hxz]⟩) hz
    · exact absurd (List.mem_map.mpr ⟨x, hxt, by rw [hxy, hyz]⟩) hz
    · exact ih hzs hxt hyt

theorem ListsSound.setPendingOut {s : State} (hs : ListsSound s) {es : List PendingOut}
    (h : (es.map PendingOut.tag).Sublist (s.matcher.pendingOut.map PendingOut.tag)) : ListsSound (s.setPendingOut es) where
  pending := by
    show es.length ≤ 8
    have hle := h.length_le
    simp only [List.length_map] at hle
    exact Nat.le_trans hle hs.pending
  tags := hs.tags.sublist h
  heard := hs.heard
  offers := hs.offers
  peers := hs.peers

/-- A change of the heard offers that adds none keeps the lists sound. -/
theorem ListsSound.setHeard {s : State} (hs : ListsSound s) {es : List HeardOffer}
    (h : (es.map fun e => (e.station, e.tag)).Sublist (s.matcher.heard.map fun e => (e.station, e.tag))) :
    ListsSound (s.setHeard es) where
  pending := hs.pending
  tags := hs.tags
  heard := by
    show es.length ≤ 8
    have hle := h.length_le
    simp only [List.length_map] at hle
    exact Nat.le_trans hle hs.heard
  offers := hs.offers.sublist h
  peers e he := by
    have hm := h.subset (List.mem_map_of_mem he)
    obtain ⟨x, hx, hxe⟩ := List.mem_map.mp hm
    have := hs.peers x hx
    simp only [Prod.mk.injEq] at hxe
    rw [← hxe.1]; exact this

theorem State.setHeard_keeps (s : State) (es : List HeardOffer)
    (h : (es.map fun e => (e.station, e.tag)).Sublist (s.matcher.heard.map fun e => (e.station, e.tag))) :
    Keeps own s (s.setHeard es) :=
  keeps_lists s _ s.queue.requests fun hs => { hs with lists := hs.lists.setHeard h }

/-- An entry leaves the list, and its OFFER the queue unless it has been sent (R62). -/
theorem State.forgetPending_keeps (s : State) (e : PendingOut) (he : e ∈ s.matcher.pendingOut) :
    Keeps own s (if e.status = .sent then s.setPendingOut (s.matcher.pendingOut.filter fun x => decide (x.tag ≠ e.tag))
      else (s.setPendingOut (s.matcher.pendingOut.filter fun x => decide (x.tag ≠ e.tag))).withdraw (.offer e.tag)) := by
  have hlists : QueueSound s → ListsSound (s.setPendingOut (s.matcher.pendingOut.filter fun x => decide (x.tag ≠ e.tag))) :=
    fun hs => hs.lists.setPendingOut (List.filter_sublist.map _)
  split
  · rename_i hsent
    refine keeps_lists s _ s.queue.requests fun hs => { hs with lists := hlists hs, offers := fun r hr tag hk => ?_ }
    obtain ⟨hren, x, hx, htag, hst⟩ := hs.offers r hr tag hk
    refine ⟨hren, x, List.mem_filter.mpr ⟨hx, decide_eq_true fun heq => hst ?_⟩, htag, hst⟩
    rw [eq_of_mem_of_nodup_map hs.lists.tags hx he heq]
    exact hsent
  · refine (keeps_lists s { s.matcher with pendingOut := s.matcher.pendingOut.filter fun x => decide (x.tag ≠ e.tag) }
      (s.queue.requests.filter fun r => decide (r.key ≠ .offer e.tag)) fun hs => ?_).trans (keeps_detach _ (.offer e.tag) _)
    refine
      { lists := ListsSound.congr (s := s.setPendingOut _) rfl rfl (hlists hs), keys := (hs.filter _).keys
        claims := (hs.filter _).claims, offers := fun r hr tag hk => ?_ }
    obtain ⟨hr1, hr2⟩ := List.mem_filter.mp hr
    obtain ⟨hren, x, hx, htag, hst⟩ := hs.offers r hr1 tag hk
    refine ⟨hren, x, List.mem_filter.mpr ⟨hx, decide_eq_true fun heq => ?_⟩, htag, hst⟩
    exact of_decide_eq_true hr2 (by rw [hk, ← htag, heq])

theorem State.removePending_keeps (s : State) (e : PendingOut) (cls : OutClass) (he : e ∈ s.matcher.pendingOut) :
    Keeps own s (s.removePending e cls) := by
  cases cls
  · exact (s.setTallies_keeps e.lane (tallyAct_addPicks _)).trans (State.forgetPending_keeps _ e he)
  · exact (s.setTallies_keeps e.lane (tallyAct_addRelocatedOut _)).trans (State.forgetPending_keeps _ e he)

theorem State.reclassify_keeps (s : State) (e : HeardOffer) : Keeps own s (s.reclassify e) := by
  unfold State.reclassify
  split
  · exact s.setTallies_keeps _ (tallyAct_reclassify _)
  · exact Keeps.refl s

theorem State.forgetHeard_keeps (s : State) (station : Nat) (tag : Byte) : Keeps own s (s.forgetHeard station tag) :=
  s.setHeard_keeps _ (List.filter_sublist.map _)

theorem State.dropHeard_keeps (s : State) (e : HeardOffer) : Keeps own s (s.dropHeard e) := by
  refine (s.forgetHeard_keeps e.station e.tag).trans ?_
  unfold State.dropHeard
  dsimp only
  split
  · exact (State.withdraw_keeps _ _).trans (State.reclassify_keeps _ e)
  · exact Keeps.refl _

theorem State.purgeHeard_keeps (s : State) (station : Nat) : Keeps own s (s.purgeHeard station) := by
  unfold State.purgeHeard
  generalize s.matcher.heard.filter _ = es
  induction es generalizing s with
  | nil => exact Keeps.refl s
  | cons e es ih => exact (s.dropHeard_keeps e).trans (ih _)

theorem State.claimHeard_keeps (s : State) (e : HeardOffer) (type : ClaimType) (l : Option Lane) (h : s.claimRoom = true) :
    Keeps own s (s.claimHeard e type l) := by
  refine (s.placeClaim_keeps e.station e.tag type h).trans (State.setHeard_keeps _ _ ?_)
  refine List.Sublist.trans (l₂ := s.matcher.heard.map fun x => (x.station, x.tag)) ?_ (List.Sublist.refl _)
  rw [List.map_map]
  refine (List.map_congr_left fun x _ => ?_) ▸ List.Sublist.refl _
  simp only [Function.comp_apply]
  split <;> rfl

theorem State.cancelOffer_keeps (s : State) (e : PendingOut) (type : ClaimType) : Keeps own s (s.cancelOffer e type) := by
  unfold State.cancelOffer
  split
  · rename_i h; exact s.placeClaim_keeps _ _ _ h.2
  · exact Keeps.refl s

theorem State.matchRise_keeps (s : State) (m : Movement) : Keeps own s (s.matchRise m) := by
  unfold State.matchRise
  split
  · rename_i e he
    exact ((s.removePending_keeps e _ (List.mem_of_find?_eq_some he)).trans
      (State.setTallies_keeps _ _ (tallyAct_addMatchedIn _))).trans (State.cancelOffer_keeps _ e _)
  · split
    · split
      · exact (s.claimHeard_keeps _ _ _ ‹_›).trans (State.setTallies_keeps _ _ (tallyAct_addMatchedIn _))
      · exact s.setTallies_keeps _ (tallyAct_addRestockIn _)
    · exact s.setTallies_keeps _ (tallyAct_addRestockIn _)

theorem State.evictPending_keeps (s : State) : Keeps own s s.evictPending.1 := by
  unfold State.evictPending
  split
  · rename_i e rest he
    split
    · show Keeps own s (s.removePending e .pick)
      exact s.removePending_keeps e _ (he ▸ List.mem_cons_self)
    · exact Keeps.refl s
  · exact Keeps.refl s

@[simp] theorem State.removePending_pendingOut (s : State) (e : PendingOut) (cls : OutClass) :
    (s.removePending e cls).matcher.pendingOut = s.matcher.pendingOut.filter fun x => decide (x.tag ≠ e.tag) := by
  unfold State.removePending
  dsimp only
  split <;> rfl

/-- Of eight entries one leaves, so that there is room for a new one (R57). -/
theorem State.evictPending_length {s : State} (h : s.matcher.pendingOut.length ≤ 8) :
    s.evictPending.1.matcher.pendingOut.length < 8 := by
  unfold State.evictPending
  split
  · rename_i e rest he
    rw [he] at h
    split
    · rw [State.removePending_pendingOut, he]
      have hrest := List.length_filter_le (fun x : PendingOut => decide (x.tag ≠ e.tag)) rest
      simp at h hrest ⊢
      omega
    · rename_i hlt
      rw [he]
      omega
  · rename_i he
    simp [he]

/-- A new entry takes a tag that no entry carries, so that neither it nor its OFFER meets one of the same name (R58). -/
theorem QueueSound.createPending {s : State} (hs : QueueSound s) (hlen : s.matcher.pendingOut.length < 8) (m : Movement) :
    QueueSound (s.createPending m) := by
  obtain ⟨e, hpending, htag, -⟩ := s.createPending_entry m
  have hstatus : e.status = .queued := by
    have : (s.createPending m).matcher.pendingOut.getLast? = some e := by rw [hpending]; simp
    have h2 : ∀ x, (s.createPending m).matcher.pendingOut.getLast? = some x → x.status = .queued := by
      intro x hx
      have hx' : some x = some _ := hx.symm.trans (List.getLast?_concat ..)
      rw [Option.some.inj hx']
    exact h2 e this
  have hused : (s.matcher.pendingOut.map PendingOut.tag).length < 9 := by rw [List.length_map]; omega
  obtain ⟨k, -, hfound, hfree, -⟩ := freeTag_first_free (exists_free_tag s.matcher.tagCounter hused (by decide))
  have hnew : e.tag ∉ s.matcher.pendingOut.map PendingOut.tag := by rw [htag, hfound]; exact hfree
  have hqueue : (s.createPending m).queue.requests = Machine.placeIn s.now (.offer e.tag) none s.queue.requests := by rw [htag]; rfl
  refine ⟨⟨?_, ?_, hs.lists.heard, hs.lists.offers, hs.lists.peers⟩, ?_, ?_, ?_⟩
  · rw [hpending, List.length_append, List.length_singleton]; omega
  · rw [hpending, List.map_append, List.nodup_append]
    refine ⟨hs.lists.tags, by simp, fun a ha b hb => ?_⟩
    rw [List.map_singleton, List.mem_singleton] at hb
    rintro rfl
    exact hnew (hb ▸ ha)
  · rw [hqueue]; exact placeIn_nodup hs.keys
  · rw [hqueue, claimsHeld_placeIn_other _ (by simp [keyKind])]; exact hs.claims
  · rw [hqueue, hpending]
    intro r hr tag hk
    rcases mem_placeIn hr with ⟨x, hx, rfl⟩ | ⟨-, rfl⟩
    · have hkx : x.key = .offer tag := by
        split at hk
        · rwa [Request.renew_key] at hk
        · exact hk
      obtain ⟨hren, y, hy, hyt, hys⟩ := hs.offers x hx tag hkx
      have hne : x.key ≠ .offer e.tag := by
        rw [hkx]
        rintro ⟨⟩
        exact hnew (hyt ▸ List.mem_map_of_mem hy)
      rw [if_neg hne]
      exact ⟨hren, y, List.mem_append_left _ hy, hyt, hys⟩
    · cases hk
      exact ⟨rfl, e, by simp, rfl, by rw [hstatus]; decide⟩

theorem State.createPending_keepsUnits (s : State) (m : Movement) : KeepsUnits own s (s.createPending m) where

theorem State.createPending_carriers (s : State) (m : Movement) : CarriersSound s → CarriersSound (s.createPending m) :=
  CarriersSound.congr rfl rfl

theorem State.handMovement_keeps (s : State) (l : Lane) (delta : Int) : Keeps own s (s.handMovement l delta).1 := by
  unfold State.handMovement
  dsimp only
  split
  · have hev : Keeps own s s.evictPending.1 := s.evictPending_keeps
    exact
      { toKeepsUnits := hev.toKeepsUnits.trans (State.createPending_keepsUnits _ _)
        queue := fun hs => (hev.queue hs).createPending (State.evictPending_length hs.lists.pending) _
        carriers := State.createPending_carriers _ _ ∘ hev.carriers }
  · exact s.matchRise_keeps _

/-! ## Foreign items (R72 to R74) -/

theorem State.setForeign_keeps (s : State) (l : Lane) (r : Option ForeignRecord) : Keeps own s (s.setForeign l r) :=
  (s.setLane_keeps l { s.lane l with foreign := r } ⟨fun h => { h with }, rfl, fun _ => rfl⟩).trans
    (State.changeNotice_keeps _ l _)

/-- What the foreign search finds is an entry of the list that it searches. -/
theorem State.foreignSearch_mem {s : State} {l : Lane} {delta : Int} {e : PendingOut}
    (h : s.foreignSearch l delta = some (.own e)) : e ∈ s.matcher.pendingOut := by
  unfold State.foreignSearch at h
  dsimp only at h
  split at h
  · rename_i x hx
    cases h
    exact List.mem_of_find?_eq_some hx
  · rw [Option.map_eq_some_iff] at h
    obtain ⟨x, -, hx⟩ := h
    cases hx

theorem State.dealWithMatch_keeps (s : State) (m : ForeignMatch) (hm : ∀ e, m = .own e → e ∈ s.matcher.pendingOut) :
    Keeps own s (s.dealWithMatch m).1 := by
  cases m with
  | own e => exact (s.removePending_keeps e _ (hm e rfl)).trans (State.cancelOffer_keeps _ e _)
  | heard e =>
    show Keeps own s (if s.claimRoom = true then s.claimHeard e .foreign none else s)
    split
    · exact s.claimHeard_keeps _ _ _ ‹_›
    · exact Keeps.refl s

/-! ## Scan mode and holds (R7, R8, R25 to R30) -/

theorem State.enterFast_keeps (s : State) : Keeps own s s.enterFast := keeps_frontEnd s _

theorem State.testQuiet_keeps (s : State) : Keeps own s s.testQuiet := by
  unfold State.testQuiet
  split
  · exact keeps_frontEnd s _
  · exact Keeps.refl s

theorem State.settleFrontEnd_keeps (s before : State) : Keeps own s (s.settleFrontEnd before) := by
  unfold State.settleFrontEnd
  split
  · exact Keeps.refl s
  · split
    · exact s.enterFast_keeps.trans (State.testQuiet_keeps _)
    · exact s.testQuiet_keeps

/-- A rule for the settlers that leaves no longer window. -/
theorem State.mapSettlers_keeps (s : State) (f : Settler → Settler) (h : ∀ t, (f t).window.length ≤ t.window.length) :
    Keeps own s (s.mapSettlers f) := by
  refine s.mapLanes_keeps _ fun l => ?_
  split
  · exact LaneAct.settler (Nat.le_trans (h _))
  · exact LaneAct.refl _ _

theorem Settler.timedHold_window (d : Nat) (t : Settler) : (t.timedHold d).window.length ≤ t.window.length := by
  unfold Settler.timedHold
  split <;> simp [Settler.enterHeld]

theorem Settler.supplyHeld_window (t : Settler) : t.supplyHeld.window.length ≤ t.window.length := by
  unfold Settler.supplyHeld
  split <;> simp [Settler.enterHeld]

theorem Settler.supplyReleased_window (t : Settler) : t.supplyReleased.window = t.window := by
  unfold Settler.supplyReleased
  split <;> rfl

theorem State.holdLanes_keeps (s : State) (d : Nat) : Keeps own s (s.holdLanes d) :=
  (s.mapSettlers_keeps _ (Settler.timedHold_window d)).trans (State.settleFrontEnd_keeps _ s)

end Sys2Proof.Machine
end

section
/-! That what a sample brings about keeps what a change keeps: the settler's steps, the count unit's work on a settle, and the
captures. -/

namespace Sys2Proof.Machine

open Sys2Proof.Config

/-! ## The count unit (R36 to R53) -/

/-- A lane's unit changes within its ranges, its notice items apart, at one of its own samples. -/
theorem State.setOwnLane_keeps (s : State) (l : Lane) (u : LaneUnit) (hb : (s.lane l).bounded → u.bounded)
    (hn : u.notice = (s.lane l).notice) : Keeps (some l) s (s.setLane l u) :=
  s.setLane_keeps l u ⟨hb, by rw [hn], fun h => absurd rfl h⟩

theorem nextDoubt_le {accepted : Bool} {doubt : Nat} (h : doubt ≤ 3) : nextDoubt accepted doubt ≤ 3 := by
  unfold nextDoubt; split <;> omega

theorem nextAudit_pos {doubt : Nat} {audit : Bool} (h : nextAudit doubt audit = true) : 1 ≤ doubt := by
  unfold nextAudit at h
  split at h
  · omega
  · split at h
    · cases h
    · omega

theorem State.applyCount_keeps (s : State) (l : Lane) {f : Figures} (hf : f.n ≤ 999) :
    Keeps (some l) s (s.applyCount l f) := by
  have hset : Keeps (some l) s (s.setCounting l
      { (s.lane l).counting with
        count := f.n, doubt := nextDoubt f.accepted (s.lane l).counting.doubt
        audit := nextAudit (nextDoubt f.accepted (s.lane l).counting.doubt) (s.lane l).counting.audit }) :=
    s.setOwnLane_keeps l _
      (fun hb => { hb with count := hf, doubt := nextDoubt_le hb.doubt, audit := nextAudit_pos }) rfl
  unfold State.applyCount
  dsimp only
  split
  · exact hset
  · exact hset.trans (State.changeNotice_keeps _ l _)

theorem State.trackZero_keeps (s : State) (l : Lane) (filtered : Int) : Keeps (some l) s (s.trackZero l filtered) := by
  unfold State.trackZero
  dsimp only
  split
  · exact Keeps.refl s
  · have hrange : -500 ≤ trackedOffset (s.lane l).counting.zeroOffset filtered ∧ _ :=
      clampInt_le (lo := -500) (hi := 500) (by omega)
    exact s.setOwnLane_keeps l _
      (fun hb => { hb with window := Nat.zero_le _, offsetLow := hrange.1, offsetHigh := hrange.2 }) rfl

theorem State.testZero_keeps (s : State) (l : Lane) (filtered : Int) (f : Figures) :
    Keeps (some l) s (s.testZero l filtered f) := by
  unfold State.testZero
  split
  · exact s.trackZero_keeps l filtered
  · exact Keeps.refl s

theorem State.setReport_keeps (s : State) (l : Lane) (r : SettleReport) : Keeps (some l) s (s.setReport l r) :=
  s.setOwnLane_keeps l _ (fun hb => { hb with }) rfl

theorem figuresOf_n_le (lr : LaneRecord) (filtered grams : Int) : (figuresOf lr filtered grams).n ≤ 999 := countOf_le _ _

theorem State.firstSettle_keeps (s : State) (l : Lane) (filtered : Int) : Keeps (some l) s (s.firstSettle l filtered) :=
  ((((s.applyCount_keeps l (figuresOf_n_le _ _ _)).trans (State.testZero_keeps _ l _ _)).trans
    (State.setReport_keeps _ l _)).trans (State.reportLane_keeps _ l)).trans (State.evaluateAll_keeps _ _)

theorem State.clearForeign_keeps (s : State) (l : Lane) (filtered : Int) : Keeps (some l) s (s.clearForeign l filtered) :=
  (s.setForeign_keeps l none).trans (State.setReport_keeps _ l _)

theorem State.takeForeign_keeps (s : State) (l : Lane) (filtered delta : Int) (f : Figures) (m : ForeignMatch)
    (hm : ∀ e, m = .own e → e ∈ s.matcher.pendingOut) : Keeps (some l) s (s.takeForeign l filtered delta f m) :=
  ((((s.setForeign_keeps l _).trans (State.setTallies_keeps _ l tallyAct_addForeignSeen)).trans
    (State.setReport_keeps _ l _)).trans (State.dealWithMatch_keeps _ m hm)).trans (State.evaluateAll_keeps _ _)

theorem State.moved_keeps {own : Option Lane} (s : State) (l : Lane) (delta : Int) :
    Keeps own s (if delta = 0 then (s, []) else s.handMovement l delta).1 := by
  split
  · exact Keeps.refl s
  · exact s.handMovement_keeps l delta

theorem State.reported_keeps {own : Option Lane} (s : State) (l : Lane) (p : Prop) [Decidable p] :
    Keeps own s (if p then (s, []) else s.reportLane l).1 := by
  split
  · exact Keeps.refl s
  · exact s.reportLane_keeps l

theorem State.countSettle_keeps (s : State) (l : Lane) (filtered : Int) {f : Figures} (hf : f.n ≤ 999) :
    Keeps (some l) s (s.countSettle l filtered f) :=
  (((((s.applyCount_keeps l hf).trans (State.testZero_keeps _ l filtered f)).trans (State.setReport_keeps _ l _)).trans
    (State.moved_keeps _ l _)).trans (State.reported_keeps _ l _)).trans (State.evaluateAll_keeps _ _)

theorem State.countUnit_keeps (s : State) (l : Lane) (filtered previous : Int) (known : Bool) :
    Keeps (some l) s (s.countUnit l filtered previous known) := by
  unfold State.countUnit
  dsimp only
  split
  · exact s.firstSettle_keeps l filtered
  · split
    · exact s.clearForeign_keeps l filtered
    · split
      · split
        · rename_i m hm
          exact s.takeForeign_keeps l filtered _ _ m fun e he => State.foreignSearch_mem (he ▸ hm)
        · exact s.countSettle_keeps l filtered (figuresOf_n_le _ _ _)
      · exact s.countSettle_keeps l filtered (figuresOf_n_le _ _ _)

/-! ## The settler (R20 to R24, R31 to R34) -/

theorem pushSample_length_le {w : List Int} (g : Int) (h : w.length ≤ 8) : (pushSample w g).length ≤ 8 := by
  rw [pushSample_eq_joined]; exact joined_length_le w g h

theorem Settler.countMotion_window (away : Bool) (t : Settler) : (t.countMotion away).window = t.window := by
  unfold Settler.countMotion; split
  · rfl
  · split <;> rfl

theorem Settler.countRange_window (t : Settler) (x : Reading) : (t.countRange x).window = t.window := by cases x <;> rfl

theorem Settler.recover_window {t : Settler} (x : Reading) (h : t.window.length ≤ 8) : (t.recover x).window.length ≤ 8 := by
  cases x with
  | beyond => exact h
  | grams g => unfold Settler.recover; dsimp only; split <;> simp [h]

theorem Settler.whileMoving_window (band : Nat) {t : Settler} (x : Reading) (h : t.window.length ≤ 8) :
    (t.whileMoving band x).window.length ≤ 8 := by
  cases x with
  | beyond => exact h
  | grams g => unfold Settler.whileMoving; dsimp only; split <;> exact pushSample_length_le g h

theorem Settler.whileSettling_window (band : Nat) {t : Settler} (x : Reading) (h : t.window.length ≤ 8) :
    (t.whileSettling band x).window.length ≤ 8 := by
  cases x with
  | beyond => exact h
  | grams g => unfold Settler.whileSettling; dsimp only; split <;> exact pushSample_length_le g h

theorem Settler.whileStable_window (motion : Nat) {t : Settler} (x : Reading) (h : t.window.length ≤ 8) :
    (t.whileStable motion x).window.length ≤ 8 := by
  cases x with
  | beyond => exact (Settler.countMotion_window _ _).symm ▸ h
  | grams g => exact (Settler.countMotion_window _ _).symm ▸ pushSample_length_le g h

/-- A sample leaves at most eight samples in the window (R20). -/
theorem Settler.take_window (lr : LaneRecord) {t : Settler} (x : Reading) (h : t.window.length ≤ 8) :
    (t.take lr x).window.length ≤ 8 := by
  have hr : (t.countRange x).window.length ≤ 8 := by rw [Settler.countRange_window]; exact h
  unfold Settler.take
  split
  · exact h
  · exact Settler.recover_window x h
  · dsimp only
    split
    · exact Nat.zero_le _
    · split
      · exact Settler.whileMoving_window _ x hr
      · exact Settler.whileSettling_window _ x hr
      · exact Settler.whileStable_window _ x hr
      · exact hr
      · exact hr

theorem State.settleEvent_keeps (s : State) (l : Lane) : Keeps (some l) s (s.settleEvent l) :=
  (s.setSettler_keeps l ((s.lane l).settler.settled _) id).trans (State.countUnit_keeps _ l _ _ _)

theorem State.faultChanged_keeps {own : Option Lane} (s : State) (l : Lane) (fault : Bool) :
    Keeps own s (s.faultChanged l fault) :=
  (s.changeNotice_keeps l _).trans (State.rederiveUncertain_keeps _ l)

theorem State.settleSample_keeps (s : State) (l : Lane) (x : Sample) : Keeps (some l) s (s.settleSample l x) := by
  unfold State.settleSample
  split
  · exact Keeps.refl s
  · rename_i r _
    dsimp only
    refine ((s.setSettler_keeps l ((s.lane l).settler.take (laneOf s.running l) r) (Settler.take_window _ r)).trans ?_).trans
      (State.settleFrontEnd_keeps _ s)
    split
    · exact State.settleEvent_keeps _ l
    · split
      · exact State.faultChanged_keeps _ l true
      · split
        · exact State.faultChanged_keeps _ l false
        · exact Keeps.refl _

/-! ## Captures (R159 to R161) -/

/-- The working copy may change within the ranges of section 9.1. -/
theorem keeps_working {own : Option Lane} (s : State) (c : NodeConfig) (h : ConfigSound s → ConfigRanged c) :
    Keeps own s { s with working := c } where
  config hs := ⟨h hs, hs.running, hs.image, hs.capture⟩

theorem State.setResult_keeps {own : Option Lane} (s : State) (code : ResultCode) (detail : Nat) :
    Keeps own s (s.setResult code detail) := keeps_port s _ (.inl rfl)

theorem State.endCapture_keeps {own : Option Lane} (s : State) (code : ResultCode) (detail : Nat) :
    Keeps own s (s.endCapture code detail) := keeps_port s _ (.inr rfl)

theorem State.failCapture_keeps {own : Option Lane} (s : State) : Keeps own s s.failCapture := by
  unfold State.failCapture
  split
  · exact s.endCapture_keeps _ _
  · exact Keeps.refl s

theorem setLaneRecord_laneOf (c : NodeConfig) (l m : Lane) (lr : LaneRecord) :
    laneOf { c with lanes := c.lanes.set l.idx.val lr l.idx.isLt } m = if m = l then lr else laneOf c m := by
  by_cases h : m = l
  · subst h
    simp [laneOf]
  · simp [laneOf, h, lane_idx_val_ne (Ne.symm h)]

/-- A configuration stays within its ranges when a lane's record is replaced by one within them. -/
theorem ConfigRanged.setLane {c : NodeConfig} (h : ConfigRanged c) (l : Lane) {lr : LaneRecord} (hr : LaneRanged lr) :
    ConfigRanged { c with lanes := c.lanes.set l.idx.val lr l.idx.isLt } :=
  { h with
    slots := h.slots
    lanes := fun m => by
      rw [setLaneRecord_laneOf]
      split
      · exact hr
      · exact h.lanes m }

theorem State.setWorkingLane_keeps {own : Option Lane} (s : State) (l : Lane) (lr : LaneRecord)
    (h : LaneRanged (laneOf s.working l) → LaneRanged lr) : Keeps own s (s.setWorkingLane l lr) :=
  keeps_working s _ fun hs => hs.working.setLane l (h (hs.working.lanes l))

/-- The mean of a capture's codes is a code (R160). -/
theorem captureMean_ranged {sum : Int} (h : sum.natAbs ≤ 8388607 * 32) :
    -8388608 ≤ roundDiv sum 32 ∧ roundDiv sum 32 ≤ 8388607 := by
  have hr := (roundDiv_rounds sum 32 (by omega)).1
  omega

theorem capturedSpan_ranged {load span : Nat} {sum zero : Int} (h : capturedSpan load sum zero = some span) :
    1 ≤ span ∧ span ≤ 65535 := by
  unfold capturedSpan at h
  dsimp only at h
  split at h
  · cases h
  · split at h
    · cases h; assumption
    · cases h

theorem State.completeCapture_keeps {own : Option Lane} (s : State) (c : Capture)
    (h : ConfigSound s → c.sum.natAbs ≤ 8388607 * 32) : Keeps own s (s.completeCapture c) := by
  unfold State.completeCapture
  dsimp only
  split
  · refine Keeps.trans (keeps_working s _ fun hs => hs.working.setLane c.lane ?_) (State.endCapture_keeps _ _ _)
    exact { hs.working.lanes c.lane with zero := captureMean_ranged (h hs) }
  · split
    · rename_i span hspan
      exact (s.setWorkingLane_keeps c.lane { laneOf s.working c.lane with span := span, spanCaptured := true }
        fun hl => { hl with span := fun _ => capturedSpan_ranged hspan }).trans (State.endCapture_keeps _ _ _)
    · exact s.endCapture_keeps _ _

theorem State.captureSample_keeps {own : Option Lane} (s : State) (l : Lane) {x : Sample}
    (hx : -8388608 ≤ x.raw ∧ x.raw ≤ 8388607) : Keeps own s (s.captureSample l x) := by
  unfold State.captureSample
  split
  · exact Keeps.refl s
  · rename_i c hc
    split
    · exact Keeps.refl s
    · split
      · exact s.failCapture_keeps
      · rename_i hsat
        have hsum : ConfigSound s → c.samples < 32 ∧ (c.sum + x.raw).natAbs ≤ 8388607 * (c.samples + 1) := fun hs => by
          have := hs.capture c hc
          omega
        dsimp only
        split
        · rename_i h32
          exact s.completeCapture_keeps _ fun hs => by
            rw [show c.samples + 1 = 32 from h32] at hsum
            exact (hsum hs).2
        · exact
            { config := fun hs => by
                refine ⟨hs.working, hs.running, hs.image, fun d hd => ?_⟩
                cases hd
                have := hsum hs
                refine ⟨?_, this.2⟩
                show c.samples + 1 < 32
                omega }

theorem sampleOf_raw (lr : LaneRecord) (offset : Int) (code : BitVec 24) : (sampleOf lr offset code).raw = code.toInt := by
  unfold sampleOf
  dsimp only
  split
  · rfl
  · split
    · rfl
    · split
      · rfl
      · split
        · rfl
        · split <;> rfl

theorem code_ranged (code : BitVec 24) : -8388608 ≤ code.toInt ∧ code.toInt ≤ 8388607 := by
  have h1 := BitVec.le_toInt code
  have h2 := BitVec.toInt_lt (x := code)
  omega

theorem State.handOn_keeps (s : State) (l : Lane) {x : Sample} (hx : -8388608 ≤ x.raw ∧ x.raw ≤ 8388607) :
    Keeps (some l) s (s.handOn l x) := by
  unfold State.handOn
  split
  · exact s.settleSample_keeps l x
  · exact s.captureSample_keeps l hx
  · exact Keeps.refl s

end Sys2Proof.Machine
end

section
/-! That the front end's, the timers' and the link's own events keep what a change keeps. -/

namespace Sys2Proof.Machine

open Sys2Proof.Config

variable {own : Option Lane}

/-! ## Rounds, the excitation check and supply hold (R1, R2, R9 to R16, R28 to R30) -/

theorem State.considerShock_keeps (s : State) : Keeps own s s.considerShock := by
  unfold State.considerShock
  split
  · exact Keeps.refl s
  · exact (keeps_frontEnd s _).trans (State.place_keeps _ .shock (by simp) (by simp [keyKind]))

theorem State.consumeLatch_keeps (s : State) : Keeps own s s.consumeLatch := by
  unfold State.consumeLatch
  split
  · dsimp only
    refine (keeps_frontEnd s { s.frontEnd with shockLatch := false }).trans ?_
    split
    · exact (State.holdLanes_keeps _ _).trans (State.considerShock_keeps _)
    · exact State.failCapture_keeps _
    · exact Keeps.refl _
  · exact Keeps.refl s

theorem LaneAct.warmUp {l : Lane} {u : LaneUnit} (n : Nat) : LaneAct own l u { u with warmUp := n } where
  bounded h := { h with }
  notice := rfl
  counts _ := rfl

theorem State.beginRound_keeps (s : State) : Keeps own s s.beginRound := by
  unfold State.beginRound
  dsimp only
  refine (s.mapLanes_keeps _ fun l => ?_).trans (keeps_frontEnd _ _)
  split
  · exact LaneAct.warmUp 8
  · exact LaneAct.refl _ _

theorem State.endSupplyHold_keeps (s : State) : Keeps own s s.endSupplyHold := by
  refine (keeps_frontEnd s _).trans (State.mapLanes_keeps _ _ fun l => ?_)
  exact { bounded := fun h => { h with window := by rw [Settler.supplyReleased_window]; exact h.window }
          notice := rfl
          counts := fun _ => rfl }

theorem State.checkInHold_keeps (s : State) (e : Excitation) : Keeps own s (s.checkInHold e) := by
  unfold State.checkInHold
  split
  · split
    · exact s.endSupplyHold_keeps
    · exact keeps_frontEnd s _
  · exact keeps_frontEnd s _

/-- The state as supply hold has begun in it, before a capture or a STORE fails of it (R15, R28). -/
def State.heldSupply (s : State) : State :=
  let s1 : State :=
    { s with frontEnd := { s.frontEnd with supplyHold := true, goodRun := 0, conversionsDue := [] } }
  match s.startUp.node with
  | .run => ((s1.mapSettlers Settler.supplyHeld).settleFrontEnd s1).enterFast
  | .configuring => s1.enterFast
  | .starting => s1

theorem State.beginSupplyHold_eq (s : State) : s.beginSupplyHold =
    if s.startUp.node = .configuring then s.heldSupply.failOperation else s.heldSupply := by
  unfold State.beginSupplyHold State.heldSupply
  cases s.startUp.node <;> rfl

theorem State.heldSupply_keeps (s : State) : Keeps own s s.heldSupply := by
  unfold State.heldSupply
  dsimp only
  refine (keeps_frontEnd s { s.frontEnd with supplyHold := true, goodRun := 0, conversionsDue := [] }).trans ?_
  split
  · exact ((State.mapSettlers_keeps _ _ Settler.supplyHeld_window).trans (State.settleFrontEnd_keeps _ _)).trans
      (State.enterFast_keeps _)
  · exact State.enterFast_keeps _
  · exact Keeps.refl _

/-! ## The timers of slots, lanes, offers, carriers and the PRESENCE schedule -/

theorem SlotUnit.timed.of_same {u v : SlotUnit} (h : u.timed) (ha : v.alert = u.alert) (ht : v.takeoverTimer = u.takeoverTimer)
    (hr : v.repeatTimer = u.repeatTimer) (hm : v.muteTimer = u.muteTimer) : v.timed := by
  obtain ⟨h1, h2, h3⟩ := h
  constructor <;> simp only [ha, ht, hr, hm] <;> assumption

/-- A running timer of a slot shows its alert state, so it may start again. -/
theorem SlotUnit.timed.restart_repeat {u : SlotUnit} (h : u.timed) (ha : u.alert = .raised) (d : Nat) :
    SlotUnit.timed { u with repeatTimer := .running d } := by
  obtain ⟨h1, h2, h3⟩ := h
  constructor <;> simp_all [Timer.isRunning]

theorem SlotUnit.timed.restart_takeover {u : SlotUnit} (h : u.timed) (ha : u.alert = .following) (d : Nat) :
    SlotUnit.timed { u with takeoverTimer := .running d } := by
  obtain ⟨h1, h2, h3⟩ := h
  constructor <;> simp_all [Timer.isRunning]

theorem SlotUnit.timed.restart_mute {u : SlotUnit} (h : u.timed) (ha : u.alert = .muted) (d : Nat) :
    SlotUnit.timed { u with muteTimer := .running d } := by
  obtain ⟨h1, h2, h3⟩ := h
  constructor <;> simp_all [Timer.isRunning]

theorem SlotUnit.timed.raised_of_due {u : SlotUnit} (h : u.timed) (hd : u.repeatTimer.due = true) : u.alert = .raised :=
  h.repeating.mp (by rw [(Timer.due_iff _).mp hd]; rfl)

theorem SlotUnit.timed.following_of_due {u : SlotUnit} (h : u.timed) (hd : u.takeoverTimer.due = true) :
    u.alert = .following :=
  h.takeover.mp (by rw [(Timer.due_iff _).mp hd]; rfl)

theorem State.placeAlert_keeps (s : State) (i : Slot) : Keeps own s (s.place (.alert i)) :=
  s.place_keeps _ (by simp) (by simp [keyKind])

theorem State.setRepeat_keeps (s : State) (i : Slot) (h : (s.slot i).timed → (s.slot i).alert = .raised) (d : Nat) :
    Keeps own s (s.setSlot i { s.slot i with repeatTimer := .running d }) :=
  s.setSlot_keeps i _ rfl fun ht => ht.restart_repeat (h ht) d

theorem State.setNoticeTimer_keeps (s : State) (l : Lane) (t : Timer) :
    Keeps own s (s.setNotice l { (s.lane l).notice with timer := t }) :=
  s.setLane_keeps l _ ⟨fun h => { h with }, rfl, fun _ => rfl⟩

theorem State.setRefresh_keeps (s : State) (i : Slot) (t : Timer) :
    Keeps own s (s.setSlot i { s.slot i with refreshTimer := t }) :=
  s.setSlot_keeps i _ rfl fun h => h.of_same rfl rfl rfl rfl

theorem State.placePresence_keeps (s : State) : Keeps own s (s.place .presence) :=
  s.place_keeps _ (by simp) (by simp [keyKind])

theorem State.pendingOf_mem {s : State} {tag : Byte} {e : PendingOut} (h : s.pendingOf tag = some e) :
    e ∈ s.matcher.pendingOut := List.mem_of_find?_eq_some h

/-! ## Offer statuses and claim statuses (R59, R65) -/

/-- The offer statuses move where the OFFER request of an entry that becomes SENT has left the queue. -/
theorem QueueSound.mapPending {s t : State} (hs : QueueSound s) (f : PendingOut → PendingOut)
    (hp : t.matcher = { s.matcher with pendingOut := s.matcher.pendingOut.map f }) (hr : t.running = s.running)
    (hkeys : (t.queue.requests.map Request.key).Sublist (s.queue.requests.map Request.key))
    (hclaims : claimsHeld t.queue.requests ≤ claimsHeld s.queue.requests)
    (hf : ∀ e, (f e).tag = e.tag)
    (hoffers : ∀ r ∈ t.queue.requests, ∀ tag, r.key = .offer tag →
      r.renewal = none ∧ ∃ x ∈ s.queue.requests, x.key = .offer tag)
    (hsent : ∀ r ∈ t.queue.requests, ∀ tag, r.key = .offer tag → ∀ e, e.tag = tag → e.status ≠ .sent → (f e).status ≠ .sent) :
    QueueSound t := by
  have htags : (s.matcher.pendingOut.map f).map PendingOut.tag = s.matcher.pendingOut.map PendingOut.tag := by
    rw [List.map_map]; exact List.map_congr_left fun e _ => hf e
  refine ⟨⟨?_, ?_, ?_, ?_, ?_⟩, hs.keys.sublist hkeys, Nat.le_trans hclaims hs.claims, fun r hr' tag hk => ?_⟩
  · rw [hp, List.length_map]; exact hs.lists.pending
  · rw [hp, htags]; exact hs.lists.tags
  · rw [hp]; exact hs.lists.heard
  · rw [hp]; exact hs.lists.offers
  · rw [hp, hr]; exact hs.lists.peers
  · obtain ⟨hren, x, hx, hxk⟩ := hoffers r hr' tag hk
    obtain ⟨-, e, he, het, hest⟩ := hs.offers x hx tag hxk
    refine ⟨hren, f e, ?_, (hf e).trans het, hsent r hr' tag hk e het hest⟩
    rw [hp]; exact List.mem_map_of_mem he

theorem claimsHeld_map {q : List Request} {f : Request → Request} (h : ∀ r, (f r).key = r.key) :
    claimsHeld (q.map f) = claimsHeld q := by
  unfold claimsHeld
  rw [List.countP_map]
  refine List.countP_congr fun r _ => ?_
  simp [Request.isClaim, h]

theorem claimsHeld_sublist {p q : List Request} (h : (p.map Request.key).Sublist (q.map Request.key)) :
    claimsHeld p ≤ claimsHeld q := by
  have hc : ∀ l : List Request, claimsHeld l = (l.map Request.key).countP fun k => decide (keyKind k = 1) := fun l => by
    rw [List.countP_map]; rfl
  rw [hc, hc]
  exact h.countP_le

/-- Matcher, queue and link move together, as at the events of the node's own frame. -/
theorem keeps_flight (s : State) (m : Matcher) (q : List Request) (k : Link)
    (hq : QueueSound s → QueueSound { s with matcher := m, queue := { s.queue with requests := q } })
    (hk : LinkSound s → LinkSound { s with link := k }) (hs : StaysSilenced s.link k) :
    Keeps own s { s with matcher := m, queue := { s.queue with requests := q }, link := k } where
  link h := LinkSound.congr (s := { s with link := k }) rfl (hk h)
  silenced := hs
  queue h := QueueSound.congr (s := { s with matcher := m, queue := { s.queue with requests := q } }) rfl rfl rfl (hq h)

/-- The link alone may change where it stays sound, and a SILENCED one silent. -/
theorem keeps_link (s : State) (k : Link) (h : LinkSound s → LinkSound { s with link := k })
    (hs : StaysSilenced s.link k) : Keeps own s { s with link := k } where
  link := h
  silenced := hs

/-- With a frame in flight, or outside SILENCED, nothing is asked of a SILENCED link. -/
theorem StaysSilenced.of_flight {j k : Link} {f : Flight} (h : j.flight = some f) : StaysSilenced j k :=
  fun _ hn => absurd (h.symm.trans hn) (by simp)

theorem StaysSilenced.of_state {j k : Link} (h : j.state ≠ .silenced) : StaysSilenced j k := fun hs _ => absurd hs h

/-! ## Frame lengths -/

theorem payloadBytes_length_le (p : Payload) : (payloadBytes p).length ≤ 12 := by
  cases p <;> simp [payloadBytes, u24, u16]

theorem frameChars_length (f : Frame) : (frameChars f).length = 5 + (payloadBytes f.payload).length := by
  simp [frameChars, coveredChars, u16]
  omega

theorem frameChars_length_le (f : Frame) : (frameChars f).length ≤ 17 := by
  have := payloadBytes_length_le f.payload
  rw [frameChars_length]
  omega

theorem trailingRecessive_le (c : Byte) : trailingRecessive c ≤ 9 := by
  have : ((byteBits c).reverse.takeWhile (· = true)).length ≤ (byteBits c).reverse.length := (List.takeWhile_sublist _).length_le
  simp only [List.length_reverse] at this
  have h8 : (byteBits c).length = 8 := rfl
  unfold trailingRecessive
  omega

/-! ## The link's states and line events (R120 to R122, R131, R132, R134) -/

theorem LinkSound.seek {s : State} (hs : LinkSound s) : LinkSound { s with link := s.link.seek } :=
  { hs with buffer := Nat.zero_le _, bits := Nat.zero_le _, between := fun _ => rfl }

theorem LinkSound.countAt {s : State} (hs : LinkSound s) {n : Nat} (hn : n ≤ 15) : s.link.countAt n ≤ 15 := by
  unfold Link.countAt
  split
  · exact hs.count
  · exact hn

theorem LinkSound.completed {s : State} (hs : LinkSound s) (chars : List Byte) :
    LinkSound { s with link := s.link.completed chars } :=
  { hs.seek with count := hs.countAt (Nat.le_trans (trailingRecessive_le _) (by omega)) }

theorem State.completed_keeps (s : State) (chars : List Byte) : Keeps own s { s with link := s.link.completed chars } :=
  keeps_link s _ (fun hs => hs.completed chars) fun h g => ⟨h, rfl, g, rfl, rfl⟩

theorem State.framingError_keeps (s : State) (cause : FramingError) :
    Keeps own s { s with link := { s.link.awaitIdle with
      recessiveCount := s.link.countAt (recessiveAfterError cause), spacing := false } } := by
  refine keeps_link s _ (fun hs => ?_) fun h g => ⟨h, rfl, g, rfl, rfl⟩
  have hcount : recessiveAfterError cause ≤ 15 := by
    cases cause with
    | lengthAbove12 length => exact Nat.le_trans (trailingRecessive_le _) (by omega)
    | _ => exact Nat.zero_le _
  exact { hs with
    count := hs.countAt hcount, buffer := Nat.zero_le _, bits := Nat.zero_le _, between := fun _ => rfl }

theorem State.conflict_keeps (s : State) (f : Frame) : Keeps own s (s.conflict f) := by
  unfold State.conflict
  split
  · dsimp only
    split
    · exact s.completed_keeps _
    · rename_i hstate
      refine keeps_link s _ (fun hs => ?_) (StaysSilenced.of_state hstate)
      have hc := hs.completed (frameChars f)
      exact { hc with
        able := fun h => by simp [Link.silence] at h
        flight := fun h => by simp [Link.silence, Link.released] at h
        timer := Nat.zero_le _ }
  · exact Keeps.refl s

theorem State.quarantineExpiry_keeps (s : State) (h : s.link.state = .quarantine) : Keeps own s { s with link :=
    { s.link with state := .joining, health := 0, quarantineTimer := .stopped, recessiveCount := 0 } } := by
  refine keeps_link s _ (fun hs => ?_) (StaysSilenced.of_state (by simp [h]))
  exact { hs with
    health := Nat.zero_le _, able := fun _ => Nat.zero_le _, count := Nat.zero_le _
    flight := fun hf => absurd ((hs.flight hf).symm.trans h) (by simp) }

theorem State.becomesActive_keeps (s : State) (x : SettlingIn) (h : s.link.state = .joining) :
    Keeps own s { s with link := { s.link.seek with state := .active }, settlingIn := x } := by
  refine Keeps.trans (t := { s with link := { s.link.seek with state := .active } }) ?_ (keeps_settlingIn _ x)
  refine keeps_link s _ (fun hs => ?_) (StaysSilenced.of_state (by simp [h]))
  exact { hs.seek with able := fun _ => hs.able (.inl h), flight := fun _ => rfl }

/-! ## Transmission start (R124, R143) -/

theorem claimsHeld_filter_le (q : List Request) (p : Request → Bool) : claimsHeld (q.filter p) ≤ claimsHeld q :=
  List.filter_sublist.countP_le

theorem State.dropRequest_keeps (s : State) (k : RequestKey) : Keeps own s (s.dropRequest k) :=
  keeps_lists s s.matcher _ fun hs => hs.filter fun r => decide (r.key ≠ k)

theorem LinkSound.launch {s : State} (hs : LinkSound s) (h : s.link.state = .active) (f : Flight) :
    LinkSound { s with link := s.link.launch f } := by
  unfold Link.launch
  split
  · exact { hs with flight := fun _ => h, timer := Nat.zero_le _ }
  · exact { hs with
      flight := fun _ => h, timer := Nat.zero_le _, count := Nat.zero_le _, buffer := Nat.zero_le _, bits := Nat.zero_le _
      between := fun _ => rfl }

/-- A status that moves to one short of SENT leaves the queue sound, whatever happens to the requests but their keys and
renewal marks. -/
theorem QueueSound.moveOffer {s : State} (hs : QueueSound s) (tag : Byte) (old : OfferStatus) {new : OfferStatus}
    (hnew : new ≠ .sent) {f : Request → Request} (hkey : ∀ r, (f r).key = r.key)
    (hren : ∀ r, r.renewal = none → (f r).renewal = none) :
    QueueSound { s.moveOffer tag old new with queue := { s.queue with requests := s.queue.requests.map f } } := by
  have hkeys : (s.queue.requests.map f).map Request.key = s.queue.requests.map Request.key := by
    rw [List.map_map]; exact List.map_congr_left fun r _ => hkey r
  refine hs.mapPending (fun e => if e.tag = tag ∧ e.status = old then { e with status := new } else e) rfl rfl
    (hkeys ▸ List.Sublist.refl _) (Nat.le_of_eq (claimsHeld_map hkey)) (fun e => by split <;> rfl) ?_ ?_
  · intro r hr t hk
    obtain ⟨x, hx, rfl⟩ := List.mem_map.mp hr
    rw [hkey] at hk
    exact ⟨hren x (hs.offers x hx t hk).1, x, hx, hk⟩
  · intro r hr t hk e het hest
    split
    · exact hnew
    · exact hest

/-- Requests that keep their keys, and their renewal marks where they had none, leave the queue sound. -/
theorem QueueSound.mapRequests {s : State} (hs : QueueSound s) {f : Request → Request} (hkey : ∀ r, (f r).key = r.key)
    (hren : ∀ r, r.renewal = none → (f r).renewal = none) :
    QueueSound { s with queue := { s.queue with requests := s.queue.requests.map f } } := by
  have hkeys : (s.queue.requests.map f).map Request.key = s.queue.requests.map Request.key := by
    rw [List.map_map]; exact List.map_congr_left fun r _ => hkey r
  refine ⟨ListsSound.congr (s := s) rfl rfl hs.lists, hkeys ▸ hs.keys, Nat.le_trans (Nat.le_of_eq (claimsHeld_map hkey)) hs.claims, ?_⟩
  intro r hr t hk
  obtain ⟨x, hx, rfl⟩ := List.mem_map.mp hr
  rw [hkey] at hk
  exact ⟨hren x (hs.offers x hx t hk).1, (hs.offers x hx t hk).2⟩

theorem State.launch_keeps (s : State) (r : Request) (p : Payload) (h : s.link.state = .active) :
    Keeps own s (s.launch r p) := by
  have hkey : ∀ x : Request, (if x.key = r.key then { x with inFlight := true } else x).key = x.key := fun x => by
    split <;> rfl
  have hren : ∀ x : Request, x.renewal = none →
      (if x.key = r.key then { x with inFlight := true } else x).renewal = none := fun x hx => by
    split <;> exact hx
  have hlink : ∀ f, LinkSound s → LinkSound { s with link := s.link.launch f } := fun f hs => hs.launch h f
  unfold State.launch State.startOwner
  split
  · exact keeps_flight s _ _ _ (fun hs => hs.moveOffer _ _ (by simp) hkey hren) (hlink _)
      (StaysSilenced.of_state (by simp [h]))
  · exact keeps_flight s s.matcher _ _ (fun hs => hs.mapRequests hkey hren) (hlink _)
      (StaysSilenced.of_state (by simp [h]))

theorem State.startNext_keeps (fuel : Nat) (s : State) (h : s.link.state = .active) : Keeps own s (s.startNext fuel) := by
  induction fuel generalizing s with
  | zero => exact Keeps.refl s
  | succ fuel ih =>
    unfold State.startNext
    split
    · exact Keeps.refl s
    · split
      · exact s.launch_keeps _ _ h
      · exact (s.dropRequest_keeps _).trans (ih _ h)

/-! ## Lost and failed transmissions (R125 to R127, R130, R131, R140) -/

theorem requestFailed_key (k : RequestKey) (r : Request) :
    (if r.key = k then { r with inFlight := false, renewal := none } else r).key = r.key := by split <;> rfl

theorem requestFailed_renewal (k : RequestKey) (r : Request) (h : r.renewal = none) :
    (if r.key = k then { r with inFlight := false, renewal := none } else r).renewal = none := by
  split
  · rfl
  · exact h

theorem State.flightFailed_keeps (s : State) (f : Flight) : Keeps own s (s.flightFailed f) := by
  unfold State.flightFailed
  split
  · exact Keeps.refl s
  · dsimp only
    split
    · exact keeps_lists s _ _ fun hs => hs.moveOffer _ _ (by simp) (requestFailed_key _) (requestFailed_renewal _)
    · exact keeps_lists s s.matcher _ fun hs => hs.mapRequests (requestFailed_key _) (requestFailed_renewal _)

/-- A link without a frame in flight, in or below the state that a failure finds it in. -/
theorem LinkSound.countFailure {s : State} {k : Link} (hk : LinkSound { s with link := k }) (ha : k.health ≤ 31)
    (hact : k.state = .active) (hf : k.flight = none) : LinkSound { s with link := k.countFailure } := by
  have hflight : ∀ {p : Prop}, k.flight.isSome = true → p := fun h => by simp [hf] at h
  unfold Link.countFailure
  dsimp only
  split
  · exact { hk with
      health := by show k.health + 4 ≤ 35; omega
      able := fun h => by simp at h
      flight := hflight }
  · rename_i hlow
    have hlow : k.health + 4 < 32 := Nat.not_le.mp fun hge => hlow ⟨hge, hact⟩
    exact { hk with
      health := by show k.health + 4 ≤ 35; omega
      able := fun _ => by show k.health + 4 ≤ 31; omega
      flight := hflight }

theorem LinkSound.released {s : State} (hs : LinkSound s) : LinkSound { s with link := s.link.released } :=
  { hs with flight := fun h => by simp [Link.released] at h, timer := Nat.zero_le _ }

theorem LinkSound.readOn {s : State} (hs : LinkSound s) (chars : List Byte) (char : Nat) {bit : Nat} (read : Bool)
    (hc : chars.length ≤ 17) (hb : bit ≤ 9) : LinkSound { s with link := s.link.readOn chars char bit read } :=
  { hs with
    buffer := by
      show (chars.take char).length ≤ 17
      rw [List.length_take]; omega
    bits := by
      show ((List.range bit).map _ ++ [read]).length ≤ 10
      simp; omega
    between := fun h => absurd rfl h }

theorem LinkSound.awaitIdle {s : State} (hs : LinkSound s) : LinkSound { s with link := s.link.awaitIdle } :=
  { hs with buffer := Nat.zero_le _, bits := Nat.zero_le _, between := fun _ => rfl }

theorem losesArbitrationAt_bit {chars : List Byte} {char bit : Nat} (h : losesArbitrationAt chars char bit = true) : bit ≤ 8 := by
  unfold losesArbitrationAt at h
  simp only [Bool.and_eq_true, decide_eq_true_eq] at h
  exact h.1.2

theorem failsReadbackAt_bit {chars : List Byte} {char bit : Nat} (h : failsReadbackAt chars char bit = true) : bit ≤ 9 := by
  unfold failsReadbackAt at h
  simp only [Bool.and_eq_true, decide_eq_true_eq] at h
  omega

theorem State.lostArbitration_keeps (s : State) (f : Flight) (hf : s.link.flight = some f) {chars : List Byte} {char bit : Nat}
    (hc : chars.length ≤ 17) (hb : bit ≤ 8) : Keeps own s (State.flightFailed { s with link :=
      { s.link.released.readOn chars char bit false with driverInhibited := false, recessiveCount := 0 } } f) := by
  refine (keeps_link s _ (fun hs => ?_) (StaysSilenced.of_flight hf)).trans (State.flightFailed_keeps _ f)
  exact { hs.released.readOn chars char false hc (show bit ≤ 9 by omega) with count := Nat.zero_le _ }

theorem LinkSound.active {s : State} (hs : LinkSound s) {f : Flight} (hf : s.link.flight = some f) :
    s.link.state = .active := hs.flight (by rw [hf]; rfl)

theorem LinkSound.readbackFailed {s : State} (hs : LinkSound s) {f : Flight} (hf : s.link.flight = some f)
    {chars : List Byte} {char bit : Nat} (hc : chars.length ≤ 17) (hb : bit ≤ 9) :
    LinkSound { s with link := s.link.readbackFailed chars char bit } := by
  have hact := hs.active hf
  have hable := hs.able (.inr hact)
  unfold Link.readbackFailed
  dsimp only
  have hreading : ∀ k : Link, LinkSound { s with link := k } → k.health = s.link.health → k.state = s.link.state →
      ∀ (silent : Bool) (n : Nat), n ≤ 15 → LinkSound { s with link := ({ k.released with
        driverInhibited := silent, recessiveCount := n } : Link).countFailure } := fun k hk hh hst silent n hn =>
    LinkSound.countFailure (s := s) { hk.released with count := hn } (hh ▸ hable) (hst.trans hact) rfl
  refine hreading _ ?_ ?_ ?_ _ _ ?_
  · split
    · exact hs
    · split
      · exact hs.awaitIdle
      · exact hs.readOn chars char _ hc hb
  · split
    · rfl
    · split <;> rfl
  · split
    · rfl
    · split <;> rfl
  · split
    · exact hs.count
    · split
      · omega
      · exact Nat.min_le_left _ _

theorem State.dominantTimeout_keeps (s : State) (f : Flight) (hf : s.link.flight = some f) :
    Keeps own s (State.flightFailed { s with link := ({ s.link.released.awaitIdle with
      driverInhibited := true, recessiveCount := 0 } : Link).countFailure } f) := by
  refine (keeps_link s _ (fun hs => ?_) (StaysSilenced.of_flight hf)).trans (State.flightFailed_keeps _ f)
  exact LinkSound.countFailure (s := s) { hs.released.awaitIdle with count := Nat.zero_le _ }
    (hs.able (.inr (hs.active hf))) (hs.active hf) rfl

end Sys2Proof.Machine
end

section
/-! That the end of a transmission, the receptions and the port's parameters keep what a change keeps. -/

namespace Sys2Proof.Machine

open Sys2Proof.Config

variable {own : Option Lane}

/-! ## Transmission end (R128, R140, R143) -/

theorem mem_requestSent {k : RequestKey} {q : List Request} {r : Request} (h : r ∈ requestSent k q) :
    ∃ x ∈ q, (x.key = k ∧ (∃ t, x.renewal = some t ∧ r = { x with age := t, inFlight := false, renewal := none }) ∨
      x.key ≠ k ∧ r = x) := by
  obtain ⟨x, hx, hr⟩ := List.mem_filterMap.mp h
  refine ⟨x, hx, ?_⟩
  split at hr
  · rename_i hk
    obtain ⟨t, ht, rfl⟩ := Option.map_eq_some_iff.mp hr
    exact .inl ⟨hk, t, ht, rfl⟩
  · rename_i hk
    cases hr
    exact .inr ⟨hk, rfl⟩

theorem requestSent_keys (k : RequestKey) (q : List Request) :
    ((requestSent k q).map Request.key).Sublist (q.map Request.key) := by
  induction q with
  | nil => exact List.Sublist.refl _
  | cons r q ih =>
    unfold requestSent at *
    rw [List.filterMap_cons]
    split
    · exact ih.cons _
    · rename_i b hb
      have hkey : b.key = r.key := by
        split at hb
        · obtain ⟨t, -, rfl⟩ := Option.map_eq_some_iff.mp hb; rfl
        · cases hb; rfl
      rw [List.map_cons, List.map_cons, hkey]
      exact ih.cons_cons _

/-- The request of a frame that has been sent leaves, or waits again with its renewal (R140); an OFFER's leaves for good. -/
theorem QueueSound.requestSent {s : State} (hs : QueueSound s) (k : RequestKey) :
    QueueSound { s with queue := { s.queue with requests := requestSent k s.queue.requests } } where
  lists := ListsSound.congr (s := s) rfl rfl hs.lists
  keys := hs.keys.sublist (requestSent_keys k _)
  claims := Nat.le_trans (claimsHeld_sublist (requestSent_keys k _)) hs.claims
  offers r hr tag hk := by
    obtain ⟨x, hx, ⟨-, t, ht, rfl⟩ | ⟨-, rfl⟩⟩ := mem_requestSent hr
    · exact absurd (ht.symm.trans (hs.offers x hx tag hk).1) (by simp)
    · exact hs.offers r hx tag hk

/-- No OFFER request of a tag is left when its frame has been sent. -/
theorem QueueSound.offer_left {s : State} (hs : QueueSound s) {tag : Byte} {r : Request}
    (hr : r ∈ Machine.requestSent (.offer tag) s.queue.requests) : r.key ≠ .offer tag := by
  obtain ⟨x, hx, ⟨hk, t, ht, rfl⟩ | ⟨hk, rfl⟩⟩ := mem_requestSent hr
  · exact absurd (ht.symm.trans (hs.offers x hx tag hk).1) (by simp)
  · exact hk

theorem QueueSound.offerSent {s : State} (hs : QueueSound s) (tag : Byte) :
    QueueSound { s.moveOffer tag .sending .sent with
      queue := { s.queue with requests := Machine.requestSent (.offer tag) s.queue.requests } } := by
  refine hs.mapPending (fun e => if e.tag = tag ∧ e.status = .sending then { e with status := .sent } else e) rfl rfl
    (requestSent_keys _ _) (claimsHeld_sublist (requestSent_keys _ _)) (fun e => by split <;> rfl) ?_ ?_
  · intro r hr t hk
    refine ⟨((hs.requestSent (.offer tag)).offers r hr t hk).1, ?_⟩
    obtain ⟨x, hx, ⟨-, y, -, rfl⟩ | ⟨-, rfl⟩⟩ := mem_requestSent hr
    · exact ⟨x, hx, hk⟩
    · exact ⟨r, hx, hk⟩
  · intro r hr t hk e het hest
    rw [if_neg]
    · exact hest
    · rintro ⟨rfl, -⟩
      exact hs.offer_left hr (het ▸ hk)

theorem LinkSound.transmitted {s : State} (hs : LinkSound s) (f : Flight) (hf : s.link.flight = some f) :
    LinkSound { s with link := s.link.transmitted f } := by
  have hable := hs.able (.inr (hs.active hf))
  exact { hs.released.seek with
    health := Nat.le_trans (Nat.sub_le _ _) hs.health
    able := fun _ => Nat.le_trans (Nat.sub_le _ _) hable
    count := Nat.le_trans (trailingRecessive_le _) (by omega) }

/-- The link and the requests at a transmission end, before the owner is told (R128, R140). -/
def State.transmitted (s : State) (f : Flight) : State :=
  { s with
    link := s.link.transmitted f
    queue := if f.detached then s.queue else { s.queue with requests := requestSent f.key s.queue.requests } }

theorem State.transmitted_keeps (s : State) (f : Flight) (hf : s.link.flight = some f) : Keeps own s (s.transmitted f) := by
  unfold State.transmitted
  split
  · exact keeps_link s _ (fun hs => hs.transmitted f hf) (StaysSilenced.of_flight hf)
  · exact keeps_flight s s.matcher _ _ (fun hs => hs.requestSent f.key) (fun hs => hs.transmitted f hf)
      (StaysSilenced.of_flight hf)

theorem State.claimSent_keeps (s : State) (station : Nat) (tag : Byte) : Keeps own s (s.claimSent station tag) := by
  refine s.setHeard_keeps _ ?_
  rw [List.map_map]
  refine (List.map_congr_left fun x _ => ?_) ▸ List.Sublist.refl _
  simp only [Function.comp_apply]
  split <;> rfl

theorem State.alertSent_keeps (s : State) (i : Slot) (status : AlertStatus) : Keeps own s (s.alertSent i status) := by
  have hset : Keeps own s (s.setSlot i { s.slot i with
      lastSent := lastSentOf status
      repeatTimer := if status = .raised ∧ (s.slot i).alert = .raised then .running (sec 60)
        else (s.slot i).repeatTimer }) := by
    refine s.setSlot_keeps i _ rfl fun ht => ?_
    split
    · rename_i h; exact (ht.restart_repeat h.2 _).of_same rfl rfl rfl rfl
    · exact ht.of_same rfl rfl rfl rfl
  unfold State.alertSent
  dsimp only
  split
  · exact hset.trans (State.placeAlert_keeps _ i)
  · exact hset

theorem State.spacing_keeps (s : State) : Keeps own s { s with frontEnd := { s.frontEnd with spacingTimer := .running (ms 1000) } } :=
  keeps_frontEnd s _

/-- The end of a frame, told to its owner, keeps what a change keeps. -/
theorem State.tellOwner_keeps (s : State) (f : Flight) (hf : s.link.flight = some f) :
    Keeps own s ((s.transmitted f).tellOwner f) := by
  have hsent := s.transmitted_keeps (own := own) f hf
  unfold State.tellOwner
  split
  · exact hsent.trans (State.spacing_keeps _)
  · split
    · exact hsent
    · exact hsent.trans (State.claimSent_keeps _ _ _)
  · rename_i tag hkey
    split
    · exact hsent
    · rename_i hdet
      unfold State.transmitted
      rw [if_neg hdet, hkey]
      exact keeps_flight s _ _ _ (fun hs => hs.offerSent tag) (fun hs => hs.transmitted f hf) (StaysSilenced.of_flight hf)
  · split
    · exact hsent.trans (State.alertSent_keeps _ _ _)
    · exact hsent
  · exact hsent
  · split
    · exact hsent.trans (State.setNoticeTimer_keeps _ _ _)
    · exact hsent
  · exact hsent.trans (State.setRefresh_keeps _ _ _)
  · split
    · exact hsent.trans (keeps_presence _ _ _)
    · exact hsent
  · exact hsent

/-! ## Receptions (R83, R123, R134, R137) -/

/-- What the link does with a frame it delivers is followed by the dispatch, on the same state but for the link. -/
theorem State.receive_keeps (s : State) (f : Frame) (dispatch : State → State)
    (h : ∀ k, Keeps own { s with link := k } (dispatch { s with link := k })) : Keeps own s (s.receive f dispatch) := by
  unfold State.receive
  split
  · exact Keeps.refl s
  · split
    · split
      · refine Keeps.trans (keeps_link s { s.link with
            flight := s.link.flight.map fun fl => { fl with delivered := true } } (fun hs => ?_)
          fun h g => ⟨h, rfl, by simp [g], rfl, rfl⟩) (h _)
        exact { hs with flight := fun h => hs.flight (by simpa using h) }
      · split
        · exact (keeps_link s { s.link with ownDelivery := none } (fun hs => { hs with })
            fun h g => ⟨h, rfl, g, rfl, rfl⟩).trans (h _)
        · exact s.conflict_keeps f
    · split
      · exact (s.completed_keeps _).trans (h _)
      · exact Keeps.refl s

/-- Every entry of a station is FRESH at age 0, as a frame of the station has left them (R83). -/
def FreshAt (s : State) (station : Nat) : Prop :=
  ∀ (p : Fin 32) (e : CarrierEntry), s.carriers[p] = some e → e.station = station → e.age = 0 ∧ e.band = .fresh

theorem State.refreshStation_freshAt (s : State) (station : Nat) : FreshAt (s.refreshStation station).1 station := by
  intro p e he hst
  obtain ⟨x, -, ⟨-, hx⟩ | ⟨hx, rfl⟩⟩ := State.mapStation_some he
  · cases hx; exact ⟨rfl, rfl⟩
  · exact absurd hst hx

/-- A dispatch is the refresh, the owner's work on the refreshed table, and evaluations (R137). -/
theorem State.dispatch_keeps (s : State) (station : Byte) (owner : State → State × List Slot)
    (h : ∀ q, FreshAt q station.toNat → Keeps own q (owner q).1) : Keeps own s (s.dispatch station owner) :=
  ((s.refreshStation_keeps station.toNat).trans (h _ (s.refreshStation_freshAt station.toNat))).trans
    (State.evaluateAll_keeps _ _)

theorem State.takeShock_keeps (station : Byte) (s : State) : Keeps own s (s.takeShock station).1 := by
  unfold State.takeShock
  split
  · exact (s.holdLanes_keeps _).trans (State.enterFast_keeps _)
  · exact Keeps.refl s

theorem State.takeClaim_keeps (station offerStation tag type : Byte) (s : State) :
    Keeps own s (s.takeClaim station offerStation tag type).1 := by
  unfold State.takeClaim
  split
  · exact Keeps.refl s
  · split
    · split
      · exact Keeps.refl s
      · split
        · rename_i e he
          exact s.removePending_keeps e .relocatedOut (State.pendingOf_mem he)
        · exact Keeps.refl s
    · split
      · split
        · exact s.forgetHeard_keeps _ _
        · exact s.dropHeard_keeps _
      · exact Keeps.refl s

@[simp] theorem State.dropHeard_heard (s : State) (e : HeardOffer) : (s.dropHeard e).matcher.heard =
    s.matcher.heard.filter fun x => !(decide (x.station = e.station) && decide (x.tag = e.tag)) := by
  unfold State.dropHeard State.reclassify
  dsimp only
  split
  · split <;> rfl
  · rfl

@[simp] theorem State.dropHeard_running (s : State) (e : HeardOffer) : (s.dropHeard e).running = s.running :=
  (s.dropHeard_keeps (own := none) e).running

theorem State.heardOf_some {s : State} {station : Nat} {tag : Byte} {e : HeardOffer} (h : s.heardOf station tag = some e) :
    e ∈ s.matcher.heard ∧ e.station = station ∧ e.tag = tag := by
  have h2 := List.find?_some h
  simp only [Bool.and_eq_true, decide_eq_true_eq] at h2
  exact ⟨List.mem_of_find?_eq_some h, h2.1, h2.2⟩

theorem State.heardOf_none {s : State} {station : Nat} {tag : Byte} (h : s.heardOf station tag = none) :
    ∀ e ∈ s.matcher.heard, ¬ (e.station = station ∧ e.tag = tag) := by
  intro e he ⟨h1, h2⟩
  have := List.find?_eq_none.mp h e he
  simp [h1, h2] at this

theorem State.replaceHeard_keeps (s : State) (station : Nat) (tag : Byte) : Keeps own s (s.replaceHeard station tag).1 := by
  unfold State.replaceHeard
  split
  · exact s.dropHeard_keeps _
  · exact Keeps.refl s

/-- No entry of the station and tag is left when it has been replaced (R63). -/
theorem State.replaceHeard_none (s : State) (station : Nat) (tag : Byte) :
    ∀ e ∈ (s.replaceHeard station tag).1.matcher.heard, ¬ (e.station = station ∧ e.tag = tag) := by
  unfold State.replaceHeard
  split
  · rename_i e he
    obtain ⟨-, rfl, rfl⟩ := State.heardOf_some he
    intro x hx
    rw [State.dropHeard_heard] at hx
    have hne := (List.mem_filter.mp hx).2
    rintro ⟨h1, h2⟩
    simp [h1, h2] at hne
  · rename_i hn
    exact State.heardOf_none hn

theorem State.roomForHeard_keeps (s : State) : Keeps own s s.roomForHeard.1 := by
  unfold State.roomForHeard
  split
  · split
    · exact State.dropHeard_keeps s _
    · exact Keeps.refl s
  · exact Keeps.refl s

theorem State.roomForHeard_sublist (s : State) : s.roomForHeard.1.matcher.heard.Sublist s.matcher.heard := by
  unfold State.roomForHeard
  split
  · split
    · rw [State.dropHeard_heard]; exact List.filter_sublist
    · exact List.Sublist.refl _
  · exact List.Sublist.refl _

/-- Of eight heard offers one leaves, so that there is room for a new one (R63). -/
theorem State.roomForHeard_length {s : State} (h : s.matcher.heard.length ≤ 8) :
    s.roomForHeard.1.matcher.heard.length < 8 := by
  unfold State.roomForHeard
  split
  · rename_i e rest he
    rw [he] at h
    split
    · rw [State.dropHeard_heard, he]
      have hrest := List.length_filter_le
        (fun x : HeardOffer => !(decide (x.station = e.station) && decide (x.tag = e.tag))) rest
      simp at h hrest ⊢
      omega
    · rename_i hlt
      rw [he]
      omega
  · rename_i he
    simp [he]

/-- A new heard offer joins lists that have room for it and hold none of its name (R63). -/
theorem QueueSound.appendHeard {s : State} (hs : QueueSound s) {e : HeardOffer} (hlen : s.matcher.heard.length < 8)
    (hnew : ∀ x ∈ s.matcher.heard, ¬ (x.station = e.station ∧ x.tag = e.tag)) (hpeer : e.station ≠ s.running.station) :
    QueueSound (s.setHeard (s.matcher.heard ++ [e])) := by
  refine { hs with lists := { hs.lists with heard := ?_, offers := ?_, peers := fun x hx => ?_ } }
  · show (s.matcher.heard ++ [e]).length ≤ 8
    simp; omega
  · show ((s.matcher.heard ++ [e]).map fun x => (x.station, x.tag)).Nodup
    rw [List.map_append, List.nodup_append]
    refine ⟨hs.lists.offers, by simp, fun a ha b hb => ?_⟩
    obtain ⟨x, hx, rfl⟩ := List.mem_map.mp ha
    rw [List.map_singleton, List.mem_singleton] at hb
    rintro rfl
    exact hnew x hx (by simpa using hb)
  · rcases List.mem_append.mp hx with hx | hx
    · exact hs.lists.peers x hx
    · rw [List.mem_singleton.mp hx]; exact hpeer

/-- A station's number that is not the node's own character is not the node's own number. -/
theorem State.station_ne {s : State} {station : Byte} (h : station ≠ s.ownStation) : station.toNat ≠ s.running.station := by
  intro heq
  refine h ?_
  rw [State.ownStation, ← heq, BitVec.ofNat_toNat, BitVec.setWidth_eq]

theorem State.takeOffer_keeps (station tag : Byte) (article : Article) (count : BitVec 16) (grams : BitVec 24) (tol : BitVec 16)
    (window : Byte) (s : State) : Keeps own s (s.takeOffer station tag article count grams tol window).1 := by
  unfold State.takeOffer
  split
  · exact Keeps.refl s
  · rename_i hvalid
    dsimp only
    have hpeer : station ≠ s.ownStation := fun h => hvalid (.inr (.inl h))
    have hrep := s.replaceHeard_keeps (own := own) station.toNat tag
    have hroom := (s.replaceHeard station.toNat tag).1.roomForHeard_keeps (own := own)
    have hkeep := hrep.trans hroom
    exact
      { toKeepsUnits := hkeep.toKeepsUnits.trans {}
        queue := fun hs => (hkeep.queue hs).appendHeard (State.roomForHeard_length (hrep.queue hs).lists.heard)
          (fun x hx => s.replaceHeard_none station.toNat tag x ((State.roomForHeard_sublist _).subset hx))
          (hkeep.running ▸ State.station_ne hpeer)
        carriers := fun hs => CarriersSound.congr (s := (s.replaceHeard station.toNat tag).1.roomForHeard.1) rfl rfl
          (hkeep.carriers hs) }

theorem State.takeHush_keeps (article : Article) (minutes : Byte) (s : State) : Keeps own s (s.takeHush article minutes).1 := by
  unfold State.takeHush
  split
  · exact Keeps.refl s
  · rename_i i _
    dsimp only
    split
    · exact Keeps.refl s
    · rename_i ha
      split
      · exact s.endMute_keeps i
      · exact s.changeAlert_keeps i _ _ fun ht => ht.restart_mute ha _
    all_goals
      split
      · exact Keeps.refl s
      · exact s.changeAlert_keeps i _ _ fun _ => SlotUnit.toMuted_timed _ _

theorem State.takeRaised_keeps (s : State) (i : Slot) (station : Byte) (holding : BitVec 16) :
    Keeps own s (s.takeRaised i station holding) := by
  unfold State.takeRaised
  dsimp only
  split
  · rename_i ha
    split
    · exact s.changeAlert_keeps i _ _ fun ht => (SlotUnit.toFollowing_timed ht (by simp [ha])).of_same rfl rfl rfl rfl
    · exact Keeps.refl s
  · rename_i ha
    exact s.setSlot_keeps i _ rfl fun ht => ht.restart_takeover ha _
  all_goals exact Keeps.refl s

theorem State.takeAlert_keeps (station : Byte) (article : Article) (status : Byte) (holding : BitVec 16) (s : State) :
    Keeps own s (s.takeAlert station article status holding).1 := by
  unfold State.takeAlert
  split
  · exact Keeps.refl s
  · exact s.takeRaised_keeps _ _ _
  · exact Keeps.refl s

theorem State.afterAlert_keeps (station : Byte) (article : Article) (status : Byte) (s : State) :
    Keeps own s (s.afterAlert station article status) := by
  unfold State.afterAlert
  split
  · exact Keeps.refl s
  · exact Keeps.refl s
  · split
    · rename_i h
      exact s.setSlot_keeps _ _ rfl fun ht => ht.restart_takeover h.2 _
    · exact Keeps.refl s

/-- A carrier entry enters a place where no other place has its name, and it has the age and band of its station's entries. -/
theorem State.setCarrier_keeps (s : State) (p : Fin 32) (e : CarrierEntry)
    (hsingle : ∀ (q : Fin 32) (x : CarrierEntry), q ≠ p → s.carriers[q] = some x → ¬ (x.station = e.station ∧ x.slot = e.slot))
    (hpeer : CarriersSound s → 1 ≤ e.station ∧ e.station ≤ 120 ∧ e.station ≠ s.running.station)
    (hage : ∀ (q : Fin 32) (x : CarrierEntry), s.carriers[q] = some x → x.station = e.station → x.age = e.age ∧ x.band = e.band) :
    Keeps own s (s.setCarrier p (some e)) := by
  refine keeps_carriers s _ fun hs => ?_
  have hself := s.setCarrier_get_self p (some e)
  have hget : ∀ (q : Fin 32) (x : CarrierEntry), (s.setCarrier p (some e)).carriers[q] = some x →
      q = p ∧ x = e ∨ q ≠ p ∧ s.carriers[q] = some x := by
    intro q x hx
    by_cases hq : q = p
    · subst hq; exact .inl ⟨rfl, Option.some.inj (hx.symm.trans hself)⟩
    · rw [State.setCarrier_get_of_ne _ _ hq] at hx; exact .inr ⟨hq, hx⟩
  refine ⟨fun q r x y hx hy hst hsl => ?_, fun q x hx => ?_, fun q r x y hx hy hst => ?_⟩
  · rcases hget q x hx with ⟨hq, hxe⟩ | ⟨hq, hx'⟩ <;> rcases hget r y hy with ⟨hr, hye⟩ | ⟨hr, hy'⟩
    · rw [hq, hr]
    · exact absurd ⟨hxe ▸ hst.symm, hxe ▸ hsl.symm⟩ (hsingle r y hr hy')
    · exact absurd ⟨hye ▸ hst, hye ▸ hsl⟩ (hsingle q x hq hx')
    · exact hs.single q r x y hx' hy' hst hsl
  · rcases hget q x hx with ⟨-, rfl⟩ | ⟨-, hx'⟩
    · exact hpeer hs
    · exact hs.peers q x hx'
  · rcases hget q x hx with ⟨-, hxe⟩ | ⟨-, hx'⟩ <;> rcases hget r y hy with ⟨-, hye⟩ | ⟨-, hy'⟩
    · rw [hxe, hye]; exact ⟨rfl, rfl⟩
    · have h := hage r y hy' (hxe ▸ hst.symm)
      rw [hxe]; exact ⟨h.1.symm, h.2.symm⟩
    · rw [hye]; exact hage q x hx' (hye ▸ hst)
    · exact hs.ages q r x y hx' hy' hst

theorem State.placeOf_some {s : State} {station : Nat} {i : Slot} {p : Fin 32} (h : s.placeOf station i = some p) :
    ∃ e, s.carriers[p] = some e ∧ e.station = station ∧ e.slot = i := by
  have := List.find?_some h
  split at this
  · rename_i e he
    simp only [Bool.and_eq_true, decide_eq_true_eq] at this
    exact ⟨e, he, this.1, this.2⟩
  · cases this

theorem State.placeOf_none {s : State} {station : Nat} {i : Slot} (h : s.placeOf station i = none) (p : Fin 32)
    (e : CarrierEntry) (he : s.carriers[p] = some e) : ¬ (e.station = station ∧ e.slot = i) := by
  rintro ⟨rfl, rfl⟩
  have := List.find?_eq_none.mp h p (List.mem_finRange p)
  simp [he] at this

end Sys2Proof.Machine
end

section
/-! That a frame's entry into the carrier table, a purge and the port's parameters keep what a change keeps. -/

namespace Sys2Proof.Machine

open Sys2Proof.Config

variable {own : Option Lane}

/-! ## STOCK and PRESENCE frames (R68, R86, R87) -/

theorem State.placeHolding_keeps (s : State) (station : Nat) (i : Slot) (holding : Nat) (uncertain : Bool)
    (hfresh : FreshAt s station) (hvalid : 1 ≤ station ∧ station ≤ 120 ∧ station ≠ s.running.station) :
    Keeps own s (s.placeHolding station i holding uncertain).1 := by
  unfold State.placeHolding
  dsimp only
  split
  · rename_i p hp
    obtain ⟨e, he, hst, hsl⟩ := State.placeOf_some hp
    rw [he]
    refine keeps_carriers s _ fun hs => ?_
    refine (State.setCarrier_keeps (own := none) s p { e with holding := holding, uncertain := uncertain }
      (fun q x hq hx hname => hq ?_) (fun hs => hs.peers p e he) fun q x hx hxe => hs.ages q p x e hx he hxe).carriers hs
    exact hs.single q p x e hx he hname.1 hname.2
  · rename_i hnone
    have hnew : ∀ p : Fin 32, Keeps own s (s.setCarrier p (some
        { station := station, slot := i, holding := holding, uncertain := uncertain, age := 0, band := .fresh })) :=
      fun p => s.setCarrier_keeps p _ (fun q x _ hx => State.placeOf_none hnone q x hx) (fun _ => hvalid) hfresh
    split
    · exact hnew _
    · split
      · exact hnew _
      · exact Keeps.refl s

theorem validStation_iff (n : Nat) : validStation n = true ↔ 1 ≤ n ∧ n ≤ 120 := by simp [validStation]

theorem State.takeStock_keeps (station : Byte) (article : Article) (holding : BitVec 16) (flags : Byte) (s : State)
    (hfresh : FreshAt s station.toNat) : Keeps own s (s.takeStock station article holding flags).1 := by
  unfold State.takeStock
  split
  · exact Keeps.refl s
  · rename_i h
    rw [not_or, Bool.not_eq_false, validStation_iff] at h
    split
    · exact Keeps.refl s
    · exact s.placeHolding_keeps _ _ _ _ hfresh ⟨h.2.1, h.2.2, State.station_ne h.1⟩

theorem State.takePresence_keeps (station restartByte : Byte) (s : State) :
    Keeps own s (s.takePresence station restartByte).1 := by
  unfold State.takePresence
  split
  · exact Keeps.refl s
  · split
    · exact s.placeReadyStocks_keeps
    · exact ((s.mapStation_keeps _ _ (by simp) (by simp)).trans (State.placeReadyStocks_keeps _)).trans
        (State.purgeHeard_keeps _ _)

/-! ## Fields and records (R155 to R158) -/

/-- Induction over a list from its end. -/
theorem list_end_induction {α : Type} {motive : List α → Prop} (nil : motive [])
    (append_singleton : ∀ xs x, motive xs → motive (xs ++ [x])) (xs : List α) : motive xs := by
  rw [← xs.reverse_reverse]
  induction xs.reverse with
  | nil => exact nil
  | cons x ys ih =>
    rw [List.reverse_cons]
    exact append_singleton _ x ih

theorem fieldNat_append (bytes : List Byte) (b : Byte) : fieldNat (bytes ++ [b]) = fieldNat bytes * 256 + b.toNat := by
  simp [fieldNat]

/-- A field of some bytes carries a number of that many bytes. -/
theorem fieldNat_lt (bytes : List Byte) : fieldNat bytes < 256 ^ bytes.length := by
  induction bytes using list_end_induction with
  | nil => simp [fieldNat]
  | append_singleton bytes b ih =>
    rw [fieldNat_append, List.length_append, List.length_singleton, Nat.pow_succ]
    have := b.isLt
    omega

theorem fieldNat_lt_of_length {bytes : List Byte} {n : Nat} (h : bytes.length ≤ n) : fieldNat bytes < 256 ^ n :=
  Nat.lt_of_lt_of_le (fieldNat_lt bytes) (Nat.pow_le_pow_right (by omega) h)

theorem slotRecordOf_ranged (bytes : List Byte) : SlotRanged (slotRecordOf bytes) where
  article := fieldNat_lt_of_length (n := 3) (List.length_take_le _ _)
  reorder := (clampNat_le (lo := 0) (hi := 3996) (by omega)).2
  hysteresis := clampNat_le (by omega)

theorem fieldSigned24_ranged (bytes : List Byte) : -8388608 ≤ fieldSigned24 bytes ∧ fieldSigned24 bytes ≤ 8388607 :=
  code_ranged _

theorem laneRecordOf_ranged {old lr : LaneRecord} {bytes : List Byte} (h : laneRecordOf old bytes = some lr)
    (ho : LaneRanged old) : LaneRanged lr := by
  unfold laneRecordOf at h
  dsimp only at h
  split at h
  · split at h
    · rename_i hunit
      cases h
      have hspan : fieldNat ((bytes.drop 14).take 2) < 256 ^ 2 := fieldNat_lt_of_length (List.length_take_le _ _)
      refine ⟨hunit, (clampNat_le (lo := 0) (hi := 200) (by omega)).2, clampNat_le (by omega), clampNat_le (by omega), clampNat_le (by omega),
        clampNat_le (by omega), ?_, ?_⟩ <;> dsimp only
      · split
        · exact ho.zero
        · exact fieldSigned24_ranged _
      · split
        · exact ho.span
        · intro; omega
    · cases h
  · cases h

/-- The neighbours kept of the bytes given are stations of other nodes, none of them twice, and no more than were given. -/
theorem filterNeighbours_sound (own : Nat) (given : List Byte) :
    (filterNeighbours own given).length ≤ given.length ∧ (filterNeighbours own given).Nodup ∧
      ∀ n ∈ filterNeighbours own given, 1 ≤ n ∧ n ≤ 120 ∧ n ≠ own := by
  induction given using list_end_induction with
  | nil => simp [filterNeighbours]
  | append_singleton given b ih =>
    obtain ⟨hlen, hnodup, hmem⟩ := ih
    have hstep : filterNeighbours own (given ++ [b]) =
        if validStation b.toNat && decide (b.toNat ≠ own) && !(filterNeighbours own given).contains b.toNat then
          filterNeighbours own given ++ [b.toNat] else filterNeighbours own given := by
      simp [filterNeighbours]
    rw [hstep]
    split
    · rename_i h
      simp only [Bool.and_eq_true, decide_eq_true_eq, validStation_iff, Bool.not_eq_true', List.contains_eq_mem,
        decide_eq_false_iff_not] at h
      refine ⟨by simp; omega, ?_, fun n hn => ?_⟩
      · rw [List.nodup_append]
        exact ⟨hnodup, by simp, fun a ha c hc => by rintro rfl; exact h.2 (List.mem_singleton.mp hc ▸ ha)⟩
      · rcases List.mem_append.mp hn with hn | hn
        · exact hmem n hn
        · rw [List.mem_singleton.mp hn]; exact ⟨h.1.1.1, h.1.1.2, h.1.2⟩
    · exact ⟨by simp; omega, hnodup, hmem⟩

/-! ## Parameter bytes (R151 to R160) -/

theorem State.complete_keeps (s : State) (code : ResultCode) (detail : Nat) : Keeps own s (s.complete code detail) :=
  keeps_port s _ (.inl rfl)

theorem State.refuse_keeps (s : State) (detail : Nat) : Keeps own s (s.refuse detail) := keeps_port s _ (.inl rfl)

theorem State.keep_keeps (s : State) (params : List Byte) : Keeps own s (s.keep params) := keeps_port s _ (.inl rfl)

theorem State.paramSetStation_keeps (s : State) (b : Byte) : Keeps own s (s.paramSetStation b) := by
  unfold State.paramSetStation
  split
  · rename_i hb
    rw [validStation_iff] at hb
    refine (keeps_working s _ fun hs => ?_).trans (State.complete_keeps _ _ _)
    exact { hs.working with
      station := hb.2
      count := Nat.le_trans (List.length_filter_le _ _) hs.working.count
      stations := fun n hn => by
        obtain ⟨hmem, hne⟩ := List.mem_filter.mp hn
        have := hs.working.stations n hmem
        exact ⟨this.1, this.2.1, of_decide_eq_true hne⟩
      distinct := hs.working.distinct.sublist List.filter_sublist
      slots := hs.working.slots, lanes := hs.working.lanes }
  · exact s.refuse_keeps 0

theorem State.paramSetLink_keeps (s : State) (params : List Byte) : Keeps own s (s.paramSetLink params) := by
  unfold State.paramSetLink
  split
  · split
    · exact s.refuse_keeps 0
    · exact s.keep_keeps _
  · refine (keeps_working s _ fun hs => ?_).trans (State.complete_keeps _ _ _)
    exact { hs.working with
      window := clampNat_le (by omega), level := clampNat_le (by omega)
      slots := hs.working.slots, lanes := hs.working.lanes }
  · exact s.keep_keeps _

theorem State.paramSetNeighbours_keeps (s : State) (params : List Byte) : Keeps own s (s.paramSetNeighbours params) := by
  unfold State.paramSetNeighbours
  split
  · exact Keeps.refl s
  · rename_i count stations
    split
    · exact s.refuse_keeps 0
    · split
      · rename_i hcount hlen
        refine (keeps_working s _ fun hs => ?_).trans (State.complete_keeps _ _ _)
        obtain ⟨hle, hnodup, hmem⟩ := filterNeighbours_sound s.working.station stations
        exact { hs.working with
          count := by show (filterNeighbours _ stations).length ≤ 4; omega
          stations := hmem, distinct := hnodup, slots := hs.working.slots, lanes := hs.working.lanes }
      · exact s.keep_keeps _

theorem State.beginCapture_keeps (s : State) (op : Operation) (l : Lane) (load : Nat) :
    Keeps own s (s.beginCapture op l load) := by
  unfold State.beginCapture
  split
  · exact s.complete_keeps _ _
  · exact
      { config := fun hs => ⟨hs.working, hs.running, hs.image, fun c hc => by cases hc; simp⟩ }

theorem State.paramCaptureZero_keeps (s : State) (b : Byte) : Keeps own s (s.paramCaptureZero b) := by
  unfold State.paramCaptureZero
  split
  · exact s.refuse_keeps 0
  · exact s.beginCapture_keeps _ _ _

theorem State.paramCaptureSpan_keeps (s : State) (params : List Byte) : Keeps own s (s.paramCaptureSpan params) := by
  unfold State.paramCaptureSpan
  split
  · exact Keeps.refl s
  · split
    · exact s.refuse_keeps 0
    · split
      · split
        · exact s.beginCapture_keeps _ _ _
        · exact s.refuse_keeps 1
      · exact s.keep_keeps _

theorem State.paramReadLane_keeps (s : State) (b : Byte) : Keeps own s (s.paramReadLane b) := by
  unfold State.paramReadLane
  split
  · exact s.refuse_keeps 0
  · exact keeps_port s _ (.inl rfl)

theorem State.paramReadSlot_keeps (s : State) (b : Byte) : Keeps own s (s.paramReadSlot b) := by
  unfold State.paramReadSlot
  split
  · exact keeps_port s _ (.inl rfl)
  · exact s.refuse_keeps 0

theorem State.paramWindow_keeps (s : State) (lo hi : Nat) (params : List Byte) : Keeps own s (s.paramWindow lo hi params) := by
  unfold State.paramWindow
  split
  · split
    · exact s.keep_keeps _
    · exact s.refuse_keeps 0
  · split
    · exact keeps_port s _ (.inl rfl)
    · exact s.refuse_keeps 1
  · exact Keeps.refl s

theorem setSlotRecord_slotOf (c : NodeConfig) {k : Nat} (h : k < 8) (r : SlotRecord) (i : Slot) :
    slotOf { c with slots := c.slots.set k r h } i = if k = i.val then r else slotOf c i := by
  simp [slotOf, Vector.getElem_set]

theorem State.applySlotRecord_keeps (s : State) (bytes : List Byte) : Keeps own s (s.applySlotRecord bytes) := by
  unfold State.applySlotRecord
  split
  · refine keeps_working s _ fun hs => ?_
    exact { hs.working with
      slots := fun i => by
        rw [setSlotRecord_slotOf]
        split
        · exact slotRecordOf_ranged bytes
        · exact hs.working.slots i
      lanes := hs.working.lanes }
  · exact Keeps.refl s

theorem State.refuseRecord_keeps (s : State) : Keeps own s s.refuseRecord := by
  unfold State.refuseRecord
  split
  · exact Keeps.refl s
  · exact keeps_port s _ (.inl rfl)

theorem State.applyLaneRecord_keeps (s : State) (bytes : List Byte) : Keeps own s (s.applyLaneRecord bytes) := by
  unfold State.applyLaneRecord
  split
  · exact Keeps.refl s
  · rename_i l _
    split
    · rename_i lr hlr
      exact keeps_working s _ fun hs => hs.working.setLane l (laneRecordOf_ranged hlr (hs.working.lanes l))
    · exact s.refuseRecord_keeps

theorem State.paramRecord_keeps (s : State) (size : Nat) (apply : State → List Byte → State) (b : Byte)
    (h : ∀ bytes, Keeps own s (apply s bytes)) : Keeps own s (s.paramRecord size apply b) := by
  unfold State.paramRecord
  dsimp only
  split
  · exact (h _).trans (keeps_port _ _ (.inl rfl))
  · exact keeps_port s _ (.inl rfl)

theorem State.takeParameter_keeps (s : State) (c : PortCommand) (b : Byte) : Keeps own s (s.takeParameter c b) := by
  cases c with
  | setStation => exact s.paramSetStation_keeps b
  | setLink => exact s.paramSetLink_keeps _
  | setNeighbours => exact s.paramSetNeighbours_keeps _
  | writeSlots =>
    show Keeps own s (if _ then _ else _)
    split
    · exact s.paramWindow_keeps _ _ _
    · exact s.paramRecord_keeps _ _ _ s.applySlotRecord_keeps
  | writeLanes =>
    show Keeps own s (if _ then _ else _)
    split
    · exact s.paramWindow_keeps _ _ _
    · exact s.paramRecord_keeps _ _ _ s.applyLaneRecord_keeps
  | captureZero => exact s.paramCaptureZero_keeps b
  | captureSpan => exact s.paramCaptureSpan_keeps _
  | readLane =>
    show Keeps own s (if _ then _ else _)
    split
    · exact Keeps.refl s
    · exact s.paramReadLane_keeps b
  | readSlot =>
    show Keeps own s (if _ then _ else _)
    split
    · exact Keeps.refl s
    · exact s.paramReadSlot_keeps b
  | _ => exact Keeps.refl s

/-! ## Bytes (R148, R150, R151) -/

/-- A byte at the port moves the port's framing, in which a capture has no part, and then its body's work is done. -/
theorem State.takeByte_cases (s : State) (b : Byte) (body : State → State) :
    s.takeByte b body = s ∨
      ∃ p : Port, p = s.port.shiftByte b ∧ p.capture = s.port.capture ∧ s.startUp.node ≠ .starting ∧
        s.takeByte b body = body { s with port := p } := by
  unfold State.takeByte
  split
  · rename_i h
    obtain ⟨-, hnode, hform⟩ := h
    refine .inr ⟨_, rfl, ?_, hnode, rfl⟩
    rw [Port.shiftByte_eq _ _ ((Port.mayForm_iff s b).mp hform).2]
  · exact .inl rfl

theorem State.endPrevious_port (s : State) : ∃ p : Port, p.capture = s.port.capture ∧ s.endPrevious = { s with port := p } := by
  unfold State.endPrevious
  dsimp only
  split
  · split <;> refine ⟨_, ?_, rfl⟩ <;> rfl
  · refine ⟨_, ?_, rfl⟩
    rfl

/-- A command byte changes nothing but the port where its command is not taken; else the command does its work. -/
theorem State.takeCommand_cases (s : State) (c : PortCommand) (body : State → State) :
    (∃ p : Port, p.capture = s.port.capture ∧ s.takeCommand c body = { s with port := p }) ∨
      ∃ p : Port, p.capture = s.port.capture ∧ s.startUp.node ≠ .starting ∧
        (s.startUp.node = .run → configuringOnly c = false) ∧ s.takeCommand c body = body { s with port := p } := by
  unfold State.takeCommand
  rcases s.takeByte_cases (BitVec.ofNat 8 (commandCode c)) (fun s =>
    let s1 := s.endPrevious
    if s1.port.operation ≠ .none ∧ c ≠ .readStatus then s1.ignore .busy 0
    else if s1.startUp.node = .run ∧ configuringOnly c = true then s1.ignore .refusedState 0
    else body s1) with h | ⟨p, -, hp, hnode, h⟩
  · exact .inl ⟨s.port, rfl, h⟩
  · obtain ⟨q, hq, hend⟩ := State.endPrevious_port { s with port := p }
    rw [h]
    dsimp only
    rw [hend]
    split
    · refine .inl ⟨_, ?_, rfl⟩
      exact hq.trans hp
    · split
      · refine .inl ⟨_, ?_, rfl⟩
        exact hq.trans hp
      · rename_i hrun
        exact .inr ⟨q, hq.trans hp, hnode, fun hr => by simpa [hr] using hrun, rfl⟩

theorem State.takeCommand_keeps (s : State) (c : PortCommand) (body : State → State)
    (h : ∀ p : Port, Keeps own { s with port := p } (body { s with port := p })) : Keeps own s (s.takeCommand c body) := by
  rcases s.takeCommand_cases c body with ⟨p, hp, heq⟩ | ⟨p, hp, -, -, heq⟩ <;> rw [heq]
  · exact keeps_port s p (.inl hp)
  · exact (keeps_port s p (.inl hp)).trans (h p)

theorem State.beginCommand_keeps (s : State) (c : PortCommand) : Keeps own s (s.beginCommand c) := keeps_port s _ (.inl rfl)

theorem State.beginReply_keeps (s : State) (c : PortCommand) (reply : List Byte) : Keeps own s (s.beginReply c reply) :=
  keeps_port s _ (.inl rfl)

theorem Port.shiftBits_capture (bits : List Bool) (p : Port) : (bits.foldl Port.shiftBit p).capture = p.capture := by
  induction bits generalizing p with
  | nil => rfl
  | cons b rest ih =>
    rw [List.foldl_cons, ih]
    unfold Port.shiftBit Port.fall Port.rise
    split
    · split <;> rfl
    · rfl

end Sys2Proof.Machine
end

section
/-! What every command of the table can do: it keeps what a change keeps; or it is a step of a STORE or of a held restart, which
changes the start-up block too; or it restarts the part, or enters CONFIGURING or RUN. The invariants' obligations follow from
this one case analysis. -/

namespace Sys2Proof.Machine

open Sys2Proof.Config

/-- The lane whose count unit a command may change beyond the tallies: that of a sample event. -/
def ownLane : Instr → Option Lane
  | .sampleEvent l _ _ => some l
  | _ => none

/-- The image and its marker after a command change at the steps of a STORE alone (R166 to R168). -/
structure ImageKept (c : Instr) (s : State) (u : StartUp) : Prop where
  image : s.startUp.storePhase = .none → u.image = s.startUp.image
  cleared : s.startUp.storePhase = .markerCleared → c ≠ .storeComplete → u.image = s.startUp.image
  marker : s.startUp.storePhase = .none → c ≠ .store → u.markerValid = s.startUp.markerValid
  valid : u.markerValid = true → s.startUp.markerValid = true ∧ u.image = s.startUp.image ∨
    c = .storeComplete ∧ u.image = s.working

/-- The commands that restart the part (R164). -/
def Restarts (c : Instr) : Prop := c = .restart ∨ c = .supplyDip ∨ c = .pin ∨ ∃ b, c = .powerOn b

/-- All that a command can do to the state. -/
inductive CommandEffect (c : Instr) (s t : State) : Prop where
  | keeps (h : Keeps (ownLane c) s t)
  | startUp (q : State) (u : StartUp) (h : Keeps none s q) (node : u.node = s.startUp.node) (image : ImageKept c s u)
      (ht : t = { q with startUp := u })
  | restarts (p : Port) (pins : Pins) (lost : Bool) (cause : RestartCause) (hc : Restarts c)
      (ht : t = State.restart
        { s with port := p, pins := pins, startUp := { s.startUp with causeLost := lost } } cause)
  | entersRun (p : Port) (hc : c = .start) (node : s.startUp.node = .configuring) (capture : p.capture = s.port.capture)
      (ht : t = (State.enterRun { s with port := p } s.working).setResult .ok 0)
  | configures (hc : c = .startDecision) (node : s.startUp.node = .starting)
      (ht : t = s.enterConfiguring s.decisionCopy s.decisionResult.1 s.decisionResult.2)
  | decides (hc : c = .startDecision) (node : s.startUp.node = .starting) (marker : s.startUp.markerValid = true)
      (ht : t = (s.enterConfiguring s.decisionCopy s.decisionResult.1 s.decisionResult.2).enterRun s.startUp.image)

theorem Keeps.ite {own : Option Lane} {s t : State} {p : Prop} [Decidable p] (h : p → Keeps own s t) :
    Keeps own s (if p then t else s) := by
  split
  · exact h ‹_›
  · exact Keeps.refl s

theorem ImageKept.refl (c : Instr) (s : State) : ImageKept c s s.startUp :=
  ⟨fun _ => rfl, fun _ _ => rfl, fun _ _ => rfl, fun h => .inl ⟨h, rfl⟩⟩

/-- A STORE in progress stops with its marker INVALID; the image changes in the WRITING phase alone (R166, R168). -/
theorem State.stoppedStore_image (s : State) (c : Instr) : ImageKept c s s.stoppedStore := by
  unfold State.stoppedStore
  split
  · exact ImageKept.refl c s
  · rename_i h
    exact ⟨fun _ => rfl, fun _ _ => rfl, fun hn => absurd (hn.symm.trans h) (by simp), fun hv => by simp at hv⟩
  · rename_i h
    exact ⟨fun hn => absurd (hn.symm.trans h) (by simp), fun hn => absurd (hn.symm.trans h) (by simp),
      fun hn => absurd (hn.symm.trans h) (by simp), fun hv => by simp at hv⟩

theorem State.stoppedStore_node (s : State) : s.stoppedStore.node = s.startUp.node := by
  unfold State.stoppedStore; split <;> rfl

/-- The stop of a STORE reads the start-up block and the working copy alone. -/
theorem State.stoppedStore_congr {s t : State} (hu : t.startUp = s.startUp) (hw : t.working = s.working) :
    t.stoppedStore = s.stoppedStore := by
  unfold State.stoppedStore; rw [hu, hw]

theorem ImageKept.of_keeps {own : Option Lane} {c : Instr} {s q : State} (h : Keeps own s q) (hc : ImageKept c q q.stoppedStore) :
    ImageKept c s q.stoppedStore := by
  obtain ⟨h1, h2, h3, -⟩ := hc
  rw [h.startUp] at h1 h2 h3
  refine ⟨h1, h2, h3, fun hv => ?_⟩
  have hstop : q.stoppedStore.markerValid = true → q.stoppedStore = q.startUp := by
    unfold State.stoppedStore
    split <;> simp
  have hsame := (hstop hv).trans h.startUp
  rw [hsame] at hv ⊢
  exact .inl ⟨hv, rfl⟩

/-- Supply hold begins: all but the end of a STORE keeps what a change keeps (R15, R168). -/
theorem State.beginSupplyHold_effect {c : Instr} {s v : State} (hv : Keeps none s v) (hc : ownLane c = none) :
    CommandEffect c s v.beginSupplyHold := by
  have hheld := hv.trans v.heldSupply_keeps
  rw [State.beginSupplyHold_eq]
  split
  · unfold State.failOperation
    split
    · exact .keeps (hc ▸ hheld)
    · exact .keeps (hc ▸ hheld.trans (State.failCapture_keeps _))
    · exact .keeps (hc ▸ hheld.trans (State.failCapture_keeps _))
    · exact .startUp _ _
        (hheld.trans (keeps_port _ { v.heldSupply.port with operation := .none, result := .storeFailed, detail := 0 } (.inl rfl)))
        ((State.stoppedStore_node _).trans (congrArg StartUp.node hheld.startUp))
        (ImageKept.of_keeps hheld (State.stoppedStore_image _ c)) rfl
  · exact .keeps (hc ▸ hheld)

theorem State.roundStart_keeps (s : State) : Keeps none s
    (if s.startUp.node ≠ .starting ∧ s.frontEnd.roundTimer.due = true then s.consumeLatch.beginRound else s) :=
  Keeps.ite fun _ => s.consumeLatch_keeps.trans (State.beginRound_keeps _)

theorem excitationCheck_effect (r : ExcitationReading) (s : State) :
    ∃ t, exec (.excitationCheck r) s = .next t ∧ CommandEffect (.excitationCheck r) s t := by
  have hfront : Keeps none s (s.checked (excitationOf r)) := keeps_frontEnd s _
  by_cases hd : s.frontEnd.checkDue = true
  · by_cases hh : s.frontEnd.supplyHold = true
    · exact ⟨_, exec_excitationCheck_in_hold r hd hh, .keeps (hfront.trans (State.checkInHold_keeps _ _))⟩
    · refine ⟨_, exec_excitationCheck_outside_hold r hd (by simpa using hh), ?_⟩
      unfold State.checkOutsideHold
      split
      · exact .keeps (hfront.trans (keeps_frontEnd _ _))
      · split
        · exact State.beginSupplyHold_effect (hfront.trans (keeps_frontEnd _ _)) rfl
        · exact .keeps (hfront.trans (keeps_frontEnd _ _))
  · refine ⟨s, ?_, .keeps (Keeps.refl s)⟩
    show execExcitationCheck r s = _
    simp [execExcitationCheck, takeEvent, hd]

/-- A sample record becomes a lane's last sample, with its warm-up count (R3, R5). -/
theorem State.setSample_keeps (s : State) (l : Lane) (x : Sample) (n : Nat) : Keeps (some l) s (s.setLane l
    { s.lane l with lastSample := x, counting := { (s.lane l).counting with priorOffset := none }, warmUp := n }) :=
  State.setOwnLane_keeps s l _ (fun h => { h with }) rfl

theorem sampleEvent_keeps (l : Lane) (code : BitVec 24) (first : Bool) (s : State) :
    ∃ t, exec (.sampleEvent l code first) s = .next t ∧ Keeps (some l) s t := by
  refine ⟨_, rfl, Keeps.ite fun _ => ?_⟩
  have hraw : ∀ offset, -8388608 ≤ (sampleOf (laneOf s.config l) offset code).raw ∧
      (sampleOf (laneOf s.config l) offset code).raw ≤ 8388607 := fun offset => by
    rw [sampleOf_raw]; exact code_ranged code
  dsimp only
  split
  · exact (keeps_frontEnd s s.frontEnd.converted).trans (State.setSample_keeps _ l _ ((s.lane l).warmUp - 1))
  · exact ((keeps_frontEnd s s.frontEnd.converted).trans (State.setSample_keeps _ l _ (s.lane l).warmUp)).trans
      (State.handOn_keeps _ l (hraw _))

theorem holdTimerExpiry_keeps (l : Lane) (s : State) : Keeps none s
    (if (s.lane l).settler.holdTimer.due then (s.setSettler l (s.lane l).settler.holdExpired).settleFrontEnd s else s) := by
  refine Keeps.ite fun _ => (s.setSettler_keeps l _ fun h => ?_).trans (State.settleFrontEnd_keeps _ s)
  unfold Settler.holdExpired
  split
  · exact Nat.zero_le _
  · exact h

theorem dipFilterExpiry_effect (s : State) : ∃ t, exec .dipFilterExpiry s = .next t ∧ CommandEffect .dipFilterExpiry s t := by
  refine ⟨_, rfl, ?_⟩
  dsimp only
  split
  · split
    · exact .keeps (keeps_frontEnd s _)
    · exact State.beginSupplyHold_effect (keeps_frontEnd s _) rfl
  · exact .keeps (Keeps.refl s)

theorem pendingOutExpiry_keeps (tag : Byte) (s : State) : Keeps none s (match s.pendingOf tag with
    | some e => if e.remaining = 0 then (s.removePending e .pick).evaluateAll (s.slotsFor e.article) else s
    | none => s) := by
  split
  · rename_i e he
    exact Keeps.ite fun _ => (s.removePending_keeps e .pick (State.pendingOf_mem he)).trans (State.evaluateAll_keeps _ _)
  · exact Keeps.refl s

theorem heardOfferExpiry_keeps (station : Nat) (tag : Byte) (s : State) : Keeps none s (match s.heardOf station tag with
    | some e => if e.remaining = 0 then (s.dropHeard e).evaluateAll (s.slotsFor e.article) else s
    | none => s) := by
  split
  · exact Keeps.ite fun _ => (s.dropHeard_keeps _).trans (State.evaluateAll_keeps _ _)
  · exact Keeps.refl s

theorem settlingInExpiry_keeps (s : State) : Keeps none s (match s.settlingIn with
    | .running 0 => State.evaluateAll { s with settlingIn := .ended } (articleSlots s.running)
    | _ => s) := by
  split
  · exact (keeps_settlingIn s _).trans (State.evaluateAll_keeps _ _)
  · exact Keeps.refl s

theorem lostArbitration_keeps (char bit : Nat) (s : State) :
    ∃ t, exec (.lostArbitration char bit) s = .next t ∧ Keeps none s t := by
  refine ⟨_, rfl, ?_⟩
  dsimp only
  split
  · exact Keeps.refl s
  · rename_i f hf
    refine Keeps.ite fun h => ?_
    rw [Bool.and_eq_true] at h
    exact s.lostArbitration_keeps f hf (frameChars_length_le _) (losesArbitrationAt_bit h.1)

theorem readbackFailure_keeps (char bit : Nat) (s : State) :
    ∃ t, exec (.readbackFailure char bit) s = .next t ∧ Keeps none s t := by
  refine ⟨_, rfl, ?_⟩
  dsimp only
  split
  · exact Keeps.refl s
  · rename_i f hf
    refine Keeps.ite fun h => ?_
    rw [Bool.and_eq_true] at h
    exact (keeps_link s _ (fun hs => hs.readbackFailed hf (frameChars_length_le _) (failsReadbackAt_bit h.1))
      (StaysSilenced.of_flight hf)).trans (State.flightFailed_keeps _ f)

theorem dominantTimeout_keeps (s : State) : ∃ t, exec .dominantTimeout s = .next t ∧ Keeps none s t := by
  refine ⟨_, rfl, ?_⟩
  dsimp only
  split
  · exact Keeps.refl s
  · exact Keeps.ite fun _ => s.dominantTimeout_keeps _ ‹_›

theorem transmissionEnd_keeps (s : State) : ∃ t, exec .transmissionEnd s = .next t ∧ Keeps none s t := by
  refine ⟨_, rfl, ?_⟩
  dsimp only
  split
  · exact Keeps.refl s
  · exact Keeps.ite fun _ => s.tellOwner_keeps _ ‹_›

theorem State.takeByte_keeps {own : Option Lane} (s : State) (b : Byte) (body : State → State)
    (h : ∀ p : Port, Keeps own { s with port := p } (body { s with port := p })) : Keeps own s (s.takeByte b body) := by
  rcases s.takeByte_cases b body with heq | ⟨p, -, hp, -, heq⟩ <;> rw [heq]
  · exact Keeps.refl s
  · exact (keeps_port s p (.inl hp)).trans (h p)

theorem parameterByte_keeps (b : Byte) (s : State) : ∃ t, exec (.parameterByte b) s = .next t ∧ Keeps none s t := by
  refine ⟨_, rfl, s.takeByte_keeps b _ fun p => ?_⟩
  split
  · exact (keeps_port _ { p with position := p.position + 1 } (.inl rfl)).trans (State.takeParameter_keeps _ _ b)
  · exact Keeps.refl _

theorem State.endPrevious_keeps {own : Option Lane} (s : State) : Keeps own s s.endPrevious := by
  obtain ⟨p, hp, heq⟩ := s.endPrevious_port
  rw [heq]
  exact keeps_port s p (.inl hp)

theorem unknownCommand_keeps (code : Byte) (s : State) : ∃ t, exec (.unknownCommand code) s = .next t ∧ Keeps none s t := by
  refine ⟨_, rfl, s.takeByte_keeps code _ fun p => ?_⟩
  dsimp only
  split
  · exact (State.endPrevious_keeps _).trans (keeps_port _ _ (.inl rfl))
  · exact (State.endPrevious_keeps _).trans (keeps_port _ _ (.inl rfl))

theorem portDeselect_keeps (clocked : List Bool) (s : State) :
    ∃ t, exec (.portDeselect clocked) s = .next t ∧ Keeps none s t := by
  refine ⟨_, rfl, Keeps.ite fun _ => ?_⟩
  refine Keeps.trans (keeps_pins s { s.pins with cpselLow := false }) (keeps_port _ _ (.inl ?_))
  show Port.capture (if _ then _ else _) = _
  split
  · rfl
  · exact Port.shiftBits_capture _ _

theorem portSelect_keeps (s : State) : ∃ t, exec .portSelect s = .next t ∧ Keeps none s t := by
  refine ⟨_, rfl, ?_⟩
  dsimp only
  split
  · exact Keeps.refl s
  · have h := (keeps_pins (own := none) s { s.pins with cpselLow := true }).trans
      (keeps_port _ s.port.discardBits (.inl rfl))
    split
    · exact h
    · exact h.trans (keeps_port _ _ (.inl rfl))

theorem store_effect (s : State) : ∃ t, exec .store s = .next t ∧ CommandEffect .store s t := by
  refine ⟨_, rfl, ?_⟩
  rcases s.takeCommand_cases .store State.beginStore with ⟨p, hp, h⟩ | ⟨p, hp, -, -, h⟩ <;> dsimp only <;> rw [h]
  · exact .keeps (keeps_port s p (.inl hp))
  · unfold State.beginStore
    split
    · exact .keeps ((keeps_port s p (.inl hp)).trans (State.setResult_keeps _ _ _))
    · exact .startUp _ { s.startUp with markerValid := false, storePhase := .markerCleared }
        (keeps_port s { p with operation := .store, result := .busy, detail := 0 } (.inl hp)) rfl
        ⟨fun _ => rfl, fun _ _ => rfl, fun _ h => absurd rfl h, fun h => by simp at h⟩ rfl

theorem storeComplete_effect (s : State) : ∃ t, exec .storeComplete s = .next t ∧ CommandEffect .storeComplete s t := by
  refine ⟨_, rfl, ?_⟩
  dsimp only
  split
  · rename_i hstore
    exact .startUp _ { s.startUp with image := s.working, markerValid := true, storePhase := .none }
      (keeps_port s { s.port with operation := .none, result := .ok, detail := 0 } (.inl rfl)) rfl
      ⟨fun h => absurd h hstore.2, fun _ h => absurd rfl h, fun h => absurd h hstore.2, fun _ => .inr ⟨rfl, rfl⟩⟩ rfl
  · exact .keeps (Keeps.refl s)

theorem start_effect (s : State) : ∃ t, exec .start s = .next t ∧ CommandEffect .start s t := by
  refine ⟨_, rfl, ?_⟩
  rcases s.takeCommand_cases .start State.beginRun with ⟨p, hp, h⟩ | ⟨p, hp, hnode, hrun, h⟩ <;> dsimp only <;> rw [h]
  · exact .keeps (keeps_port s p (.inl hp))
  · have hconf : s.startUp.node = .configuring := by
      cases hn : s.startUp.node with
      | configuring => rfl
      | starting => exact absurd hn hnode
      | run => exact absurd (hrun hn) (by decide)
    unfold State.beginRun
    split
    · exact .entersRun p rfl hconf hp rfl
    · exact .keeps ((keeps_port s p (.inl hp)).trans (State.setResult_keeps _ _ _))

theorem restart_effect (s : State) : ∃ t, exec .restart s = .next t ∧ CommandEffect .restart s t := by
  refine ⟨_, rfl, ?_⟩
  rcases s.takeCommand_cases .restart (fun s => s.restart .command) with ⟨p, hp, h⟩ | ⟨p, hp, -, -, h⟩ <;>
    dsimp only <;> rw [h]
  · exact .keeps (keeps_port s p (.inl hp))
  · exact .restarts p s.pins s.startUp.causeLost .command (.inl rfl) rfl

theorem retentionLoss_effect (s : State) : ∃ t, exec .retentionLoss s = .next t ∧ CommandEffect .retentionLoss s t := by
  refine ⟨_, rfl, ?_⟩
  dsimp only
  split
  · exact .startUp _ { s.startUp with causeLost := true } (keeps_pins s { s.pins with vdd := .belowRetention }) rfl
      ⟨fun _ => rfl, fun _ _ => rfl, fun _ _ => rfl, fun h => .inl ⟨h, rfl⟩⟩ rfl
  · exact .keeps (Keeps.refl s)

theorem restartRelease_effect (high : Bool) (s : State) :
    ∃ t, exec (.restartRelease high) s = .next t ∧ CommandEffect (.restartRelease high) s t := by
  refine ⟨_, rfl, ?_⟩
  dsimp only
  split
  · exact .startUp _
      { s.startUp with
        startDelay := .running (ms 25), cause := if s.startUp.causeLost then .powerOn else s.startUp.cause, causeLost := false }
      (keeps_pins s { s.pins with vdd := vddOf high, resetnLow := false }) rfl
      ⟨fun _ => rfl, fun _ _ => rfl, fun _ _ => rfl, fun h => .inl ⟨h, rfl⟩⟩ rfl
  · exact .keeps (Keeps.refl s)

theorem startDecision_effect (s : State) : ∃ t, exec .startDecision s = .next t ∧ CommandEffect .startDecision s t := by
  refine ⟨_, rfl, ?_⟩
  dsimp only
  split
  · rename_i h
    split
    · rename_i hdec
      unfold State.decidesRun at hdec
      simp only [Bool.and_eq_true] at hdec
      exact .decides rfl h.1 hdec.1.1 rfl
    · exact .configures rfl h.1 rfl
  · exact .keeps (Keeps.refl s)

theorem reception_keeps (s : State) (f : Frame) (station : Byte) (owner : State → State × List Slot)
    (h : ∀ q, FreshAt q station.toNat → Keeps none q (owner q).1) :
    Keeps none s (s.receive f fun s => s.dispatch station owner) :=
  s.receive_keeps f _ fun _ => State.dispatch_keeps _ station owner h

/-- Every command answers a next state, and this is all that it can have done. -/
theorem exec_effect (c : Instr) (s : State) : ∃ t, exec c s = .next t ∧ CommandEffect c s t := by
  have kept : ∀ {c : Instr}, ownLane c = none → (∃ t, exec c s = .next t ∧ Keeps none s t) →
      ∃ t, exec c s = .next t ∧ CommandEffect c s t := fun hc ⟨t, ht, hk⟩ => ⟨t, ht, .keeps (hc ▸ hk)⟩
  cases c with
  | roundStart => exact kept rfl ⟨_, rfl, s.roundStart_keeps⟩
  | excitationCheck r => exact excitationCheck_effect r s
  | sampleEvent l code first =>
    obtain ⟨t, ht, hk⟩ := sampleEvent_keeps l code first s
    exact ⟨t, ht, .keeps hk⟩
  | holdTimerExpiry l => exact kept rfl ⟨_, rfl, holdTimerExpiry_keeps l s⟩
  | quietTimerExpiry => exact kept rfl ⟨_, rfl, Keeps.ite fun _ => keeps_frontEnd s _⟩
  | shockComparatorEdge rate =>
    exact kept rfl ⟨_, rfl, Keeps.ite fun _ => (keeps_frontEnd s _).trans (State.enterFast_keeps _)⟩
  | shockSpacingTimerExpiry => exact kept rfl ⟨_, rfl, Keeps.ite fun _ => keeps_frontEnd s _⟩
  | vddBelowHoldLevel =>
    refine kept rfl ⟨_, rfl, Keeps.ite fun _ => ?_⟩
    dsimp only
    split
    · exact keeps_pins s _
    · exact (keeps_pins s { s.pins with vdd := .belowHold }).trans (keeps_frontEnd _ _)
  | vddAtHoldLevel => exact kept rfl ⟨_, rfl, (keeps_pins s { s.pins with vdd := .atHold }).trans (keeps_frontEnd _ _)⟩
  | dipFilterExpiry => exact dipFilterExpiry_effect s
  | pendingOutExpiry tag => exact kept rfl ⟨_, rfl, pendingOutExpiry_keeps tag s⟩
  | heardOfferExpiry station tag => exact kept rfl ⟨_, rfl, heardOfferExpiry_keeps station tag s⟩
  | carrierEntryStale station =>
    refine kept rfl ⟨_, rfl, (s.mapStation_keeps station _ ?_ ?_).trans (State.evaluateAll_keeps _ _)⟩
    · rintro x e ⟨⟩
      split <;> exact ⟨rfl, rfl⟩
    · rintro x y e d hage hband ⟨⟩ ⟨⟩
      have hdue : x.dueStale = y.dueStale := by simp [CarrierEntry.dueStale, hage, hband]
      rw [hdue]
      split
      · exact ⟨hage, rfl⟩
      · exact ⟨hage, hband⟩
  | carrierEntryRemoved station =>
    refine kept rfl ⟨_, rfl, (s.mapStation_keeps station _ ?_ ?_).trans (State.evaluateAll_keeps _ _)⟩
    · intro x e h
      split at h
      · cases h
      · cases h; exact ⟨rfl, rfl⟩
    · intro x y e d hage hband hx hy
      split at hx
      · cases hx
      · split at hy
        · cases hy
        · cases hx; cases hy; exact ⟨hage, hband⟩
  | settlingInExpiry => exact kept rfl ⟨_, rfl, settlingInExpiry_keeps s⟩
  | refreshTimerExpiry i =>
    exact kept rfl ⟨_, rfl, Keeps.ite fun _ => (s.setRefresh_keeps i _).trans (State.placeStock_keeps _ i _)⟩
  | takeoverTimerExpiry i =>
    exact kept rfl ⟨_, rfl, Keeps.ite fun h => s.changeAlert_keeps i _ true fun ht =>
      SlotUnit.toRaised_timed ht (by simp [ht.following_of_due h])⟩
  | repeatTimerExpiry i =>
    exact kept rfl ⟨_, rfl, Keeps.ite fun h => (s.setRepeat_keeps i (fun ht => ht.raised_of_due h) _).trans
      (State.placeAlert_keeps _ i)⟩
  | muteTimerExpiry i =>
    exact kept rfl ⟨_, rfl, Keeps.ite fun _ => (s.endMute_keeps i).trans (State.evaluate_keeps _ i)⟩
  | noticeTimerExpiry l =>
    exact kept rfl ⟨_, rfl, Keeps.ite fun _ => (s.setNoticeTimer_keeps l _).trans
      (State.place_keeps _ (.notice l) (by simp) (by simp [keyKind]))⟩
  | presenceTimerExpiry =>
    exact kept rfl ⟨_, rfl, Keeps.ite fun _ => (keeps_presence s _ s.queue.restartFlag).trans (State.placePresence_keeps _)⟩
  | shockReception station =>
    exact kept rfl ⟨_, rfl, reception_keeps s _ station _ fun q _ => State.takeShock_keeps station q⟩
  | claimReception station os ot ty =>
    exact kept rfl ⟨_, rfl, reception_keeps s _ station _ fun q _ => State.takeClaim_keeps station os ot ty q⟩
  | offerReception station tag article count grams tol window =>
    exact kept rfl ⟨_, rfl, reception_keeps s _ station _ fun q _ =>
      State.takeOffer_keeps station tag article count grams tol window q⟩
  | hushReception station article minutes =>
    exact kept rfl ⟨_, rfl, reception_keeps s _ station _ fun q _ => State.takeHush_keeps article minutes q⟩
  | alertReception station article status combined holding rp =>
    exact kept rfl ⟨_, rfl, s.receive_keeps _ _ fun _ =>
      (State.dispatch_keeps _ station _ fun q _ => State.takeAlert_keeps station article status holding q).trans
        (State.afterAlert_keeps station article status _)⟩
  | noticeReception station lane article flags =>
    exact kept rfl ⟨_, rfl, reception_keeps s _ station _ fun q _ => Keeps.refl q⟩
  | stockReception station article holding flags =>
    exact kept rfl ⟨_, rfl, reception_keeps s _ station _ fun q hq => State.takeStock_keeps station article holding flags q hq⟩
  | presenceReception station rb health =>
    exact kept rfl ⟨_, rfl, reception_keeps s _ station _ fun q _ => State.takePresence_keeps station rb q⟩
  | addressConflict p => exact kept rfl ⟨_, rfl, s.conflict_keeps _⟩
  | transmissionStart =>
    refine kept rfl ⟨_, rfl, Keeps.ite fun h => s.startNext_keeps _ ?_⟩
    unfold State.mayStart at h
    simp only [Bool.and_eq_true, decide_eq_true_eq] at h
    exact h.1.1.1.1
  | lostArbitration char bit => exact kept rfl (lostArbitration_keeps char bit s)
  | readbackFailure char bit => exact kept rfl (readbackFailure_keeps char bit s)
  | dominantTimeout => exact kept rfl (dominantTimeout_keeps s)
  | transmissionEnd => exact kept rfl (transmissionEnd_keeps s)
  | quarantineExpiry => exact kept rfl ⟨_, rfl, Keeps.ite fun h => s.quarantineExpiry_keeps h.1⟩
  | linkBecomesActive => exact kept rfl ⟨_, rfl, Keeps.ite fun h => s.becomesActive_keeps _ h.1⟩
  | portSelect => exact kept rfl (portSelect_keeps s)
  | portDeselect clocked => exact kept rfl (portDeselect_keeps clocked s)
  | parameterByte b => exact kept rfl (parameterByte_keeps b s)
  | unknownCommand code => exact kept rfl (unknownCommand_keeps code s)
  | store => exact store_effect s
  | storeComplete => exact storeComplete_effect s
  | start => exact start_effect s
  | restart => exact restart_effect s
  | setStation => exact kept rfl ⟨_, rfl, s.takeCommand_keeps _ _ fun _ => State.beginCommand_keeps _ _⟩
  | setLink => exact kept rfl ⟨_, rfl, s.takeCommand_keeps _ _ fun _ => State.beginCommand_keeps _ _⟩
  | setNeighbours => exact kept rfl ⟨_, rfl, s.takeCommand_keeps _ _ fun _ => State.beginCommand_keeps _ _⟩
  | writeSlots => exact kept rfl ⟨_, rfl, s.takeCommand_keeps _ _ fun _ => State.beginCommand_keeps _ _⟩
  | writeLanes => exact kept rfl ⟨_, rfl, s.takeCommand_keeps _ _ fun _ => State.beginCommand_keeps _ _⟩
  | captureZero => exact kept rfl ⟨_, rfl, s.takeCommand_keeps _ _ fun _ => State.beginCommand_keeps _ _⟩
  | captureSpan => exact kept rfl ⟨_, rfl, s.takeCommand_keeps _ _ fun _ => State.beginCommand_keeps _ _⟩
  | readLane => exact kept rfl ⟨_, rfl, s.takeCommand_keeps _ _ fun _ => State.beginCommand_keeps _ _⟩
  | readSlot => exact kept rfl ⟨_, rfl, s.takeCommand_keeps _ _ fun _ => State.beginCommand_keeps _ _⟩
  | readStatus => exact kept rfl ⟨_, rfl, s.takeCommand_keeps _ _ fun _ => State.beginReply_keeps _ _ _⟩
  | readCarriers =>
    exact kept rfl ⟨_, rfl, s.takeCommand_keeps _ _ fun _ =>
      (State.beginReply_keeps _ _ _).trans (State.setResult_keeps _ _ _)⟩
  | powerOn high =>
    exact ⟨_, rfl, .restarts s.port { s.pins with vdd := vddOf high } false .powerOn (.inr (.inr (.inr ⟨high, rfl⟩))) rfl⟩
  | supplyDip => exact ⟨_, rfl, .restarts s.port _ s.startUp.causeLost .supplyDip (.inr (.inl rfl)) rfl⟩
  | pin =>
    exact ⟨_, rfl, .restarts s.port { s.pins with resetnLow := true } s.startUp.causeLost .pin (.inr (.inr (.inl rfl))) rfl⟩
  | retentionLoss => exact retentionLoss_effect s
  | restartRelease high => exact restartRelease_effect high s
  | startDecision => exact startDecision_effect s
  | comparatorOutputInactive rate =>
    refine kept rfl ⟨_, rfl, ?_⟩
    dsimp only
    split
    · exact Keeps.refl s
    · exact keeps_frontEnd s _
  | framingError cause => exact kept rfl ⟨_, rfl, Keeps.ite fun _ => s.framingError_keeps cause⟩
  | lineIdle =>
    exact kept rfl ⟨_, rfl, Keeps.ite fun _ => keeps_link s _ LinkSound.seek fun h g => ⟨h, rfl, g, rfl, rfl⟩⟩
  | invalidFrameDropped frame => exact kept rfl ⟨_, rfl, Keeps.ite fun _ => s.completed_keeps frame⟩

end Sys2Proof.Machine
end

section
/-! The invariants over a restart, over the entries into CONFIGURING and RUN and over a tick; and the invariants' obligations, each
from the case analysis of a command and of a step. -/

namespace Sys2Proof.Machine

open Sys2Proof.Config

/-! ## A step -/

/-- What every command keeps and every tick keeps, every step keeps. -/
theorem step_preserves {Inv : State → Prop} (hpending : ∀ s rest, Inv s → Inv { s with pending := rest })
    (hcommand : ∀ c s t, Inv s → CommandEffect c s t → Inv t) (htick : ∀ s, Inv s → Inv s.tick) (s t : State) (hs : Inv s)
    (h : step s = .next t) : Inv t := by
  unfold step at h
  split at h
  · cases h; exact htick s hs
  · rename_i c rest _
    obtain ⟨u, hu, heffect⟩ := exec_effect c { s with pending := rest }
    cases hu.symm.trans h
    exact hcommand c _ t (hpending s rest hs) heffect

/-! ## Cleared and entered blocks -/

@[simp] theorem State.restart_lane (s : State) (cause : RestartCause) (l : Lane) :
    (s.restart cause).lane l = LaneUnit.cleared := by
  show (Vector.replicate 4 LaneUnit.cleared)[l.idx] = _
  simp

@[simp] theorem State.restart_slot (s : State) (cause : RestartCause) (i : Slot) :
    (s.restart cause).slot i = SlotUnit.cleared := by
  show (Vector.replicate 8 SlotUnit.cleared)[i] = _
  simp

@[simp] theorem State.restart_carrier (s : State) (cause : RestartCause) (p : Fin 32) :
    (s.restart cause).carriers[p] = none := by
  show (Vector.replicate 32 none)[p] = _
  simp

theorem State.enterRun_lane (s : State) (cfg : NodeConfig) (l : Lane) :
    (s.enterRun cfg).lane l = (s.lane l).atRunEntry (laneEnabled cfg l) s.frontEnd.supplyHold :=
  s.mapLanes_lane (fun l u => u.atRunEntry (laneEnabled cfg l) s.frontEnd.supplyHold) l

@[simp] theorem State.enterRun_slot (s : State) (cfg : NodeConfig) (i : Slot) :
    (s.enterRun cfg).slot i = SlotUnit.cleared := by
  show (Vector.replicate 8 SlotUnit.cleared)[i] = _
  simp

@[simp] theorem State.enterRun_carrier (s : State) (cfg : NodeConfig) (p : Fin 32) :
    (s.enterRun cfg).carriers[p] = none := by
  show (Vector.replicate 32 none)[p] = _
  simp

theorem State.enterConfiguring_lane (s : State) (cfg : NodeConfig) (code : ResultCode) (detail : Nat) (l : Lane) :
    (s.enterConfiguring cfg code detail).lane l = { s.lane l with warmUp := 8, lastSample := Sample.cleared } :=
  s.mapLanes_lane (fun _ u => { u with warmUp := 8, lastSample := Sample.cleared }) l

theorem LaneUnit.cleared_bounded : LaneUnit.cleared.bounded := by
  constructor <;> simp [LaneUnit.cleared, Settler.cleared, CountUnit.cleared, Tallies.bounded, Tallies.zero]

theorem SlotUnit.cleared_timed : SlotUnit.cleared.timed := by
  constructor <;> simp [SlotUnit.cleared, Timer.isRunning]

theorem LaneUnit.atRunEntry_window (enabled supplyHold : Bool) (u : LaneUnit) :
    (u.atRunEntry enabled supplyHold).settler.window = [] := by
  cases enabled <;> cases supplyHold <;> rfl

theorem LaneUnit.atRunEntry_bounded (enabled supplyHold : Bool) (u : LaneUnit) : (u.atRunEntry enabled supplyHold).bounded :=
  { LaneUnit.cleared_bounded with window := by rw [LaneUnit.atRunEntry_window]; exact Nat.zero_le _ }

/-- The link and the lists after a restart: nothing sent, nothing heard. -/
theorem LinkSound.of_cleared {s : State} (h : s.link = Link.cleared) : LinkSound s := by
  constructor <;> simp [h, Link.cleared]

theorem LinkSound.of_entered {s : State} (h : s.link = { Link.cleared with state := .joining, receiver := .searching }) :
    LinkSound s := by
  constructor <;> simp [h, Link.cleared]

theorem ListsSound.of_cleared {s : State} (h : s.matcher = Matcher.cleared) : ListsSound s := by
  constructor <;> simp [h, Matcher.cleared]

theorem QueueSound.of_cleared {s : State} (h : s.matcher = Matcher.cleared) (hq : s.queue.requests = []) : QueueSound s := by
  refine ⟨ListsSound.of_cleared h, ?_, ?_, ?_⟩ <;> simp [hq, claimsHeld]

theorem QueueSound.enterRun (s : State) (cfg : NodeConfig) : QueueSound (s.enterRun cfg) := by
  refine ⟨ListsSound.of_cleared rfl, ?_, ?_, ?_⟩ <;> simp [State.enterRun, claimsHeld, Request.isClaim, keyKind]

theorem CarriersSound.of_empty {s : State} (h : ∀ p : Fin 32, s.carriers[p] = none) : CarriersSound s :=
  ⟨fun p _ e _ he => absurd ((h p).symm.trans he) (by simp), fun p e he => absurd ((h p).symm.trans he) (by simp),
    fun p _ e _ he => absurd ((h p).symm.trans he) (by simp)⟩

theorem NodeConfig.default_ranged : ConfigRanged NodeConfig.default where
  station := by decide
  window := by decide
  level := by decide
  count := by decide
  stations := by simp [NodeConfig.default]
  distinct := List.nodup_nil
  slots i := by
    have h : slotOf NodeConfig.default i = SlotRecord.default := by simp [slotOf, NodeConfig.default]
    rw [h]; exact ⟨by decide, by decide, by decide⟩
  lanes l := by
    have h : laneOf NodeConfig.default l = LaneRecord.default := by simp [laneOf, NodeConfig.default]
    rw [h]; exact ⟨by decide, by decide, by decide, by decide, by decide, by decide, by decide, by decide⟩

/-! ## A tick -/

theorem State.tick_lane (s : State) (l : Lane) : s.tick.lane l = (s.lane l).tick := by
  simp [State.lane, State.tick]

theorem State.tick_slot (s : State) (i : Slot) : s.tick.slot i = (s.slot i).tick := by
  simp [State.slot, State.tick]

theorem State.tick_carrier (s : State) (p : Fin 32) : s.tick.carriers[p] = s.carriers[p].map CarrierEntry.tick := by
  simp [State.tick]

theorem LaneUnit.tick_bounded {u : LaneUnit} (h : u.bounded) : u.tick.bounded := { h with }

@[simp] theorem Timer.pass_isRunning (d : Nat) (t : Timer) : (t.pass d).isRunning = t.isRunning := by cases t <;> rfl

theorem SlotUnit.tick_timed {u : SlotUnit} (h : u.timed) : u.tick.timed := by
  obtain ⟨h1, h2, h3⟩ := h
  constructor <;> simpa [SlotUnit.tick]

theorem QueueSound.tick {s : State} (hs : QueueSound s) : QueueSound s.tick := by
  have hpending : (s.matcher.pendingOut.map fun e => { e with remaining := e.remaining - Config.tick }).map PendingOut.tag =
      s.matcher.pendingOut.map PendingOut.tag := by rw [List.map_map]; rfl
  have hheard : (s.matcher.heard.map fun e => { e with remaining := e.remaining - Config.tick }).map
      (fun e => (e.station, e.tag)) = s.matcher.heard.map fun e => (e.station, e.tag) := by rw [List.map_map]; rfl
  refine ⟨⟨?_, hpending ▸ hs.lists.tags, ?_, hheard ▸ hs.lists.offers, fun e he => ?_⟩, hs.keys, hs.claims, fun r hr tag hk => ?_⟩
  · exact Nat.le_trans (Nat.le_of_eq (List.length_map _)) hs.lists.pending
  · exact Nat.le_trans (Nat.le_of_eq (List.length_map _)) hs.lists.heard
  · obtain ⟨x, hx, rfl⟩ := List.mem_map.mp he
    exact hs.lists.peers x hx
  · obtain ⟨hren, e, he, htag, hst⟩ := hs.offers r hr tag hk
    exact ⟨hren, { e with remaining := e.remaining - Config.tick }, List.mem_map_of_mem he, htag, hst⟩

theorem CarriersSound.tick {s : State} (hs : CarriersSound s) : CarriersSound s.tick := by
  have hfrom : ∀ {p : Fin 32} {e : CarrierEntry}, s.tick.carriers[p] = some e → ∃ x, s.carriers[p] = some x ∧ x.tick = e := by
    intro p e he
    rw [State.tick_carrier] at he
    exact Option.map_eq_some_iff.mp he
  refine ⟨fun p q e f he hf hst hsl => ?_, fun p e he => ?_, fun p q e f he hf hst => ?_⟩
  · obtain ⟨x, hx, rfl⟩ := hfrom he
    obtain ⟨y, hy, rfl⟩ := hfrom hf
    exact hs.single p q x y hx hy hst hsl
  · obtain ⟨x, hx, rfl⟩ := hfrom he
    exact hs.peers p x hx
  · obtain ⟨x, hx, rfl⟩ := hfrom he
    obtain ⟨y, hy, rfl⟩ := hfrom hf
    obtain ⟨hage, hband⟩ := hs.ages p q x y hx hy hst
    exact ⟨congrArg (fun n => min (sec 300) (n + Config.tick)) hage, hband⟩

theorem ConfigSound.tick {s : State} (hs : ConfigSound s) : ConfigSound s.tick := by
  refine ⟨hs.working, hs.running, hs.image, fun c hc => hs.capture c ?_⟩
  have hframe := congrArg Port.capture (s.clocked_frame (Config.portEdges s.now))
  exact hframe.symm.trans hc

/-! ### The link's bit times (R118 to R121, R127) -/

theorem frameGoesOn_length {chars : List Byte} (h : frameGoesOn chars = true) : chars.length ≤ 17 := by
  unfold frameGoesOn at h
  split at h
  · simp only [Bool.and_eq_true, decide_eq_true_eq] at h
    omega
  · rename_i hshort
    rcases chars with _ | ⟨a, _ | ⟨b, _ | ⟨c, rest⟩⟩⟩
    · simp
    · simp
    · simp
    · exact absurd rfl (hshort a b c rest)

/-- The receiver's items within their limits: a frame buffer of at most 17 characters, and bits of a character, at most ten, in
IN CHARACTER alone. -/
structure ReceiverSound (k : Link) : Prop where
  buffer : k.buffer.length ≤ 17
  bits : k.bits.length ≤ 10
  between : k.receiver ≠ .inCharacter → k.bits = []

theorem ReceiverSound.startCharacter {k : Link} {buffer : List Byte} (h : buffer.length ≤ 17) :
    ReceiverSound (k.startCharacter buffer) := ⟨h, by simp [Link.startCharacter], fun hne => absurd rfl hne⟩

theorem ReceiverSound.receiveBit {k : Link} (h : ReceiverSound k) (recessive : Bool) : ReceiverSound (k.receiveBit recessive) := by
  have hempty : ReceiverSound (k.startCharacter []) := ReceiverSound.startCharacter (Nat.zero_le _)
  unfold Link.receiveBit
  split
  case h_1 => exact h
  case h_2 =>
    split
    · exact h
    · exact hempty
  case h_3 hreceiver =>
    unfold Link.sampleBit
    dsimp only
    split
    · exact h
    · rename_i hsampled
      have hbits : k.bits.length < 10 := by simpa [Link.sampled] using hsampled
      split
      · rename_i hgo
        exact ⟨frameGoesOn_length hgo.2.2, Nat.zero_le _, fun _ => rfl⟩
      · exact ⟨h.buffer, by simp; omega, fun hne => absurd hreceiver hne⟩
  case h_4 =>
    split
    · exact h
    · split
      · exact hempty
      · exact ReceiverSound.startCharacter h.buffer
  case h_5 =>
    split
    · exact h
    · exact hempty

theorem Link.receiveBit_frame (k : Link) (recessive : Bool) : k.receiveBit recessive =
    { k with
      receiver := (k.receiveBit recessive).receiver, buffer := (k.receiveBit recessive).buffer
      bits := (k.receiveBit recessive).bits } := by
  unfold Link.receiveBit
  split
  case h_1 => rfl
  case h_2 => split <;> rfl
  case h_3 =>
    unfold Link.sampleBit
    split
    · rfl
    · dsimp only
      split <;> rfl
  case h_4 => split <;> rfl
  case h_5 => split <;> rfl

theorem Link.countBit_frame (k : Link) (recessive : Bool) : k.countBit recessive =
    { k with
      recessiveCount := (k.countBit recessive).recessiveCount, spacing := (k.countBit recessive).spacing } := by
  unfold Link.countBit; split <;> rfl

theorem Link.countBit_count (k : Link) (recessive : Bool) : (k.countBit recessive).recessiveCount ≤ 15 := by
  unfold Link.countBit
  split
  · exact Nat.min_le_left _ _
  · exact Nat.zero_le _

theorem LinkSound.receiver {s : State} (hs : LinkSound s) : ReceiverSound s.link := ⟨hs.buffer, hs.bits, hs.between⟩

theorem LinkSound.sendBit {s : State} {k : Link} (hs : LinkSound { s with link := k }) :
    LinkSound { s with link := k.sendBit } := by
  unfold Link.sendBit
  split
  · rename_i f hf
    dsimp only
    split
    · exact { hs with
        flight := fun _ => hs.flight (by rw [hf]; rfl)
        timer := by
          dsimp only
          split
          · exact Nat.zero_le _
          · exact Nat.min_le_left _ _ }
    · exact hs
  · exact hs

theorem LinkSound.bitTime {s : State} (hs : LinkSound s) (others : Bool) : LinkSound { s with link := s.link.bitTime others } := by
  unfold Link.bitTime
  split
  · exact hs
  · have hr := hs.receiver.receiveBit (s.link.level others)
    refine LinkSound.sendBit ?_
    rw [Link.countBit_frame, Link.receiveBit_frame]
    exact { hs with
      count := Nat.le_trans (Nat.le_of_eq (congrArg Link.recessiveCount (congrArg (Link.countBit · (s.link.level others))
        (Link.receiveBit_frame _ _))).symm) (Link.countBit_count _ _)
      buffer := hr.buffer, bits := hr.bits, between := hr.between }

theorem LinkSound.bitTimes {s : State} (hs : LinkSound s) (levels : List Bool) :
    LinkSound { s with link := s.link.bitTimes levels } := by
  unfold Link.bitTimes
  induction levels generalizing s with
  | nil => exact hs
  | cons others rest ih => exact ih (hs.bitTime others)

theorem LinkSound.tick {s : State} (hs : LinkSound s) : LinkSound s.tick :=
  LinkSound.congr (s := { s with link := s.link.tick (lineLevels s.running.bitRate s.now) }) rfl
    (LinkSound.bitTimes (s := { s with link := { s.link with quarantineTimer := s.link.quarantineTimer.pass Config.tick } })
      { hs with } _)

/-! ## The obligations -/

/-- Settles O2: whatever a command does, it answers a next state and leaves the queue of commands and the timebase. -/
theorem everyCommandCompletes : Obligations.EveryCommandCompletes := by
  intro c s
  obtain ⟨t, ht, heffect⟩ := exec_effect c s
  refine ⟨t, ht, ?_⟩
  cases heffect with
  | keeps h => exact ⟨h.pending, h.now⟩
  | startUp q u h _ _ ht => subst ht; exact ⟨h.pending, h.now⟩
  | restarts _ _ _ _ _ ht => subst ht; exact ⟨rfl, rfl⟩
  | entersRun _ _ _ _ ht => subst ht; exact ⟨rfl, rfl⟩
  | configures _ _ ht => subst ht; exact ⟨rfl, rfl⟩
  | decides _ _ _ ht => subst ht; exact ⟨rfl, rfl⟩

/-- Settles O4, over the kinds of effect that a command can have. -/
theorem stepKeepsLanesBounded : Obligations.StepKeepsLanesBounded := by
  refine step_preserves (Inv := LanesBounded) (fun _ _ hs => hs) (fun c s t hs heffect => ?_) fun s hs l => ?_
  · cases heffect with
    | keeps h => exact h.bounded hs
    | startUp q u h _ _ ht => subst ht; exact h.bounded hs
    | restarts _ _ _ _ _ ht => subst ht; intro l; rw [State.restart_lane]; exact LaneUnit.cleared_bounded
    | entersRun p _ _ _ ht =>
      subst ht; intro l
      exact (State.enterRun_lane _ _ l).symm ▸ LaneUnit.atRunEntry_bounded _ _ _
    | configures _ _ ht => subst ht; intro l; rw [State.enterConfiguring_lane]; exact { hs l with }
    | decides _ _ _ ht =>
      subst ht; intro l
      rw [State.enterRun_lane]; exact LaneUnit.atRunEntry_bounded _ _ _
  · rw [State.tick_lane]; exact LaneUnit.tick_bounded (hs l)

/-- Settles O5, over the kinds of effect that a command can have. -/
theorem stepKeepsAlertsTimed : Obligations.StepKeepsAlertsTimed := by
  refine step_preserves (Inv := AlertsTimed) (fun _ _ hs => hs) (fun c s t hs heffect => ?_) fun s hs i => ?_
  · cases heffect with
    | keeps h => exact h.timed hs
    | startUp q u h _ _ ht => subst ht; exact h.timed hs
    | restarts _ _ _ _ _ ht => subst ht; intro i; rw [State.restart_slot]; exact SlotUnit.cleared_timed
    | entersRun p _ _ _ ht =>
      subst ht; intro i
      exact (State.enterRun_slot { s with port := p } s.working i).symm ▸ SlotUnit.cleared_timed
    | configures _ _ ht => subst ht; exact hs
    | decides _ _ _ ht => subst ht; intro i; rw [State.enterRun_slot]; exact SlotUnit.cleared_timed
  · rw [State.tick_slot]; exact SlotUnit.tick_timed (hs i)

/-- Settles O6, over the kinds of effect that a command can have and the bit times of a tick. -/
theorem stepKeepsLinkSound : Obligations.StepKeepsLinkSound := by
  refine step_preserves (Inv := LinkSound) (fun s _ => LinkSound.congr (s := s) rfl) (fun c s t hs heffect => ?_)
    fun s => LinkSound.tick
  cases heffect with
  | keeps h => exact h.link hs
  | startUp q u h _ _ ht => subst ht; exact LinkSound.congr (s := q) rfl (h.link hs)
  | restarts _ _ _ _ _ ht => subst ht; exact LinkSound.of_cleared rfl
  | entersRun p _ _ _ ht => subst ht; exact LinkSound.of_entered rfl
  | configures _ _ ht => subst ht; exact LinkSound.congr (s := s) rfl hs
  | decides _ _ _ ht => subst ht; exact LinkSound.of_entered rfl

/-- Settles O9, over the kinds of effect that a command can have: what comes into force is the working copy, a VALID image or
the defaults. -/
theorem stepKeepsConfigSound : Obligations.StepKeepsConfigSound := by
  refine step_preserves (Inv := ConfigSound) (fun s _ => ConfigSound.congr (s := s) rfl rfl rfl rfl)
    (fun c s t hs heffect => ?_) fun s => ConfigSound.tick
  have hcopy : ConfigRanged s.decisionCopy := by
    unfold State.decisionCopy
    split
    · exact hs.image ‹_›
    · exact NodeConfig.default_ranged
  have hkept : ∀ {c : Instr} {u : StartUp}, ImageKept c s u → u.markerValid = true → ConfigRanged u.image := fun h hv => by
    rcases h.valid hv with ⟨hm, hi⟩ | ⟨-, hi⟩ <;> rw [hi]
    · exact hs.image hm
    · exact hs.working
  cases heffect with
  | keeps h => exact h.config hs
  | startUp q u h _ himage ht =>
    subst ht
    have hq := h.config hs
    exact ⟨hq.working, hq.running, hkept himage, hq.capture⟩
  | restarts p pins lost _ _ ht =>
    subst ht
    refine ⟨NodeConfig.default_ranged, NodeConfig.default_ranged, fun hv => ?_, fun c hc => by cases hc⟩
    have himage := State.stoppedStore_image { s with port := p, pins := pins, startUp := { s.startUp with causeLost := lost } } c
    exact hkept (c := c) ⟨himage.image, himage.cleared, himage.marker, himage.valid⟩ hv
  | entersRun p _ _ hp ht =>
    subst ht
    exact ⟨hs.working, hs.working, hs.image, fun c hc => hs.capture c (hp ▸ hc)⟩
  | configures _ _ ht => subst ht; exact ⟨hcopy, hs.running, hs.image, fun c hc => by cases hc⟩
  | decides _ _ hm ht => subst ht; exact ⟨hs.image hm, hs.image hm, hs.image, fun c hc => by cases hc⟩

/-- Settles O10, over the kinds of effect that a command can have. -/
theorem stepKeepsCarriersSound : Obligations.StepKeepsCarriersSound := by
  refine step_preserves (Inv := CarriersSound) (fun s _ => CarriersSound.congr (s := s) rfl rfl)
    (fun c s t hs heffect => ?_) fun s => CarriersSound.tick
  cases heffect with
  | keeps h => exact h.carriers hs
  | startUp q u h _ _ ht => subst ht; exact CarriersSound.congr (s := q) rfl rfl (h.carriers hs)
  | restarts _ _ _ _ _ ht => subst ht; exact CarriersSound.of_empty (State.restart_carrier _ _)
  | entersRun p _ _ _ ht =>
    subst ht; exact CarriersSound.of_empty (State.enterRun_carrier { s with port := p } s.working)
  | configures _ _ ht => subst ht; exact CarriersSound.congr (s := s) rfl rfl hs
  | decides _ _ _ ht => subst ht; exact CarriersSound.of_empty (State.enterRun_carrier _ _)

/-- Settles O12: each effect keeps the image and its marker as a STORE's steps alone may change them. -/
theorem imageAndMarkerChangeOnlyInStore : Obligations.ImageAndMarkerChangeOnlyInStore := by
  intro c s t h
  obtain ⟨u, hu, heffect⟩ := exec_effect c s
  cases hu.symm.trans h
  have hkept : ImageKept c s t.startUp := by
    cases heffect with
    | keeps h => rw [h.startUp]; exact ImageKept.refl c s
    | startUp q u h _ himage ht => subst ht; exact himage
    | restarts p pins lost _ _ ht =>
      subst ht
      have himage := State.stoppedStore_image { s with port := p, pins := pins, startUp := { s.startUp with causeLost := lost } } c
      exact ⟨himage.image, himage.cleared, himage.marker, himage.valid⟩
    | entersRun p _ _ _ ht => subst ht; exact ⟨fun _ => rfl, fun _ _ => rfl, fun _ _ => rfl, fun h => .inl ⟨h, rfl⟩⟩
    | configures _ _ ht => subst ht; exact ⟨fun _ => rfl, fun _ _ => rfl, fun _ _ => rfl, fun h => .inl ⟨h, rfl⟩⟩
    | decides _ _ _ ht => subst ht; exact ⟨fun _ => rfl, fun _ _ => rfl, fun _ _ => rfl, fun h => .inl ⟨h, rfl⟩⟩
  refine ⟨hkept.image, hkept.cleared, hkept.marker, fun hv hn => ?_, fun hne hv => ?_⟩
  · rcases hkept.valid hv with ⟨hm, -⟩ | hstored
    · rw [hn] at hm; cases hm
    · exact hstored
  · rcases hkept.valid hv with ⟨-, hsame⟩ | ⟨hc, -⟩
    · exact absurd hsame hne
    · exact hc

end Sys2Proof.Machine
end

section
/-! The invariants' obligations that ask for more than a preservation: the queue's limit of 38 requests, the indicator outputs, and
the count units' own samples. -/

namespace Sys2Proof.Machine

open Sys2Proof.Config

/-! ## The queue (R139 to R142) -/

/-- The keys that a request of another kind than CLAIM can have. -/
def State.otherKeys (s : State) : List RequestKey :=
  [.shock, .presence] ++ s.matcher.pendingOut.map (fun e => .offer e.tag) ++ allSlots.map .alert ++ Lane.all.map .notice ++
    allSlots.map .stock

theorem mem_allSlots (i : Slot) : i ∈ allSlots := by revert i; decide

theorem mem_allLanes (l : Lane) : l ∈ Lane.all := by cases l <;> decide

theorem QueueSound.mem_otherKeys {s : State} (hs : QueueSound s) {r : Request} (hr : r ∈ s.queue.requests)
    (hc : r.isClaim = false) : r.key ∈ s.otherKeys := by
  have hoffer := hs.offers r hr
  unfold State.otherKeys
  unfold Request.isClaim at hc
  cases hk : r.key with
  | claim station tag => rw [hk] at hc; exact absurd hc (by simp [keyKind])
  | offer tag =>
    obtain ⟨-, e, he, htag, -⟩ := hoffer tag hk
    have : RequestKey.offer tag ∈ s.matcher.pendingOut.map (fun e => .offer e.tag) := List.mem_map.mpr ⟨e, he, by rw [htag]⟩
    simp [this]
  | alert i => simp [mem_allSlots]
  | notice l => simp [mem_allLanes]
  | stock i => simp [mem_allSlots]
  | shock => simp
  | presence => simp

/-- 1 SHOCK, 1 PRESENCE, 8 each of OFFER, ALERT and STOCK, 4 NOTICE, and 8 CLAIM requests at the most. -/
theorem QueueSound.length_le {s : State} (hs : QueueSound s) : s.queue.requests.length ≤ 38 := by
  have hother : (s.queue.requests.filter fun r => !r.isClaim).length ≤ 30 := by
    have hnodup : ((s.queue.requests.filter fun r => !r.isClaim).map Request.key).Nodup :=
      hs.keys.sublist (List.filter_sublist.map _)
    have hsub : (s.queue.requests.filter fun r => !r.isClaim).map Request.key ⊆ s.otherKeys := by
      intro k hk
      obtain ⟨r, hr, rfl⟩ := List.mem_map.mp hk
      obtain ⟨hmem, hc⟩ := List.mem_filter.mp hr
      exact hs.mem_otherKeys hmem (by simpa using hc)
    have hle := hnodup.length_le_of_subset hsub
    have hlen : s.otherKeys.length = 22 + s.matcher.pendingOut.length := by
      simp [State.otherKeys, allSlots, Lane.all]; omega
    have := hs.lists.pending
    rw [List.length_map] at hle
    omega
  have hclaims : (s.queue.requests.filter Request.isClaim).length ≤ 8 := by
    rw [← List.countP_eq_length_filter]; exact hs.claims
  have hnot : (fun r : Request => decide ¬ r.isClaim = true) = fun r => !r.isClaim := by
    funext r
    cases r.isClaim <;> rfl
  have hsplit := List.length_eq_countP_add_countP Request.isClaim (l := s.queue.requests)
  rw [hnot, List.countP_eq_length_filter, List.countP_eq_length_filter] at hsplit
  omega

/-- Settles O7, over the kinds of effect that a command can have; the limit of 38 follows from the kinds of requests. -/
theorem stepKeepsQueueSound : Obligations.StepKeepsQueueSound := by
  intro s t hs h
  have ht : QueueSound t := by
    refine step_preserves (Inv := QueueSound) (fun s _ => QueueSound.congr (s := s) rfl rfl rfl)
      (fun c s t hs heffect => ?_) (fun s => QueueSound.tick) s t hs h
    cases heffect with
    | keeps h => exact h.queue hs
    | startUp q u h _ _ ht => subst ht; exact QueueSound.congr (s := q) rfl rfl rfl (h.queue hs)
    | restarts _ _ _ _ _ ht => subst ht; exact QueueSound.of_cleared rfl rfl
    | entersRun p _ _ _ ht =>
      subst ht
      exact QueueSound.congr (s := State.enterRun { s with port := p } s.working) rfl rfl rfl (QueueSound.enterRun _ _)
    | configures _ _ ht => subst ht; exact QueueSound.congr (s := s) rfl rfl rfl hs
    | decides _ _ _ ht => subst ht; exact QueueSound.enterRun _ _
  exact ⟨ht, ht.length_le⟩

/-! ## Count units (R38, R39) -/

theorem LaneUnit.atRunEntry_counting (enabled supplyHold : Bool) (u : LaneUnit) :
    (u.atRunEntry enabled supplyHold).counting = CountUnit.cleared := rfl

/-- Settles O29: an effect that keeps the other lanes' count units changes none but that of the sample's lane, and a count unit is
cleared at a restart and at RUN entry. -/
theorem countUnitChangesOnlyAtItsOwnSamples : Obligations.CountUnitChangesOnlyAtItsOwnSamples := by
  intro c s t l h hown
  obtain ⟨u, hu, heffect⟩ := exec_effect c s
  cases hu.symm.trans h
  have hne : ownLane c ≠ some l := by
    cases c with
    | sampleEvent m code first =>
      intro hl
      cases hl
      exact hown code first rfl
    | _ => simp [ownLane]
  have same : ∀ {v : LaneUnit}, SameCount (s.lane l) v → v.counting.count = (s.lane l).counting.count ∧
      v.counting.doubt = (s.lane l).counting.doubt ∧ v.counting.audit = (s.lane l).counting.audit ∧
      v.counting.zeroOffset = (s.lane l).counting.zeroOffset ∧ v.counting.priorOffset = (s.lane l).counting.priorOffset ∧
      v.counting.report = (s.lane l).counting.report := fun h => by
    unfold SameCount at h
    rw [h]
    exact ⟨rfl, rfl, rfl, rfl, rfl, rfl⟩
  cases heffect with
  | keeps h => exact .inl (same (h.counts l hne))
  | startUp q u hkeep _ _ ht => subst ht; exact .inl (same (hkeep.counts l (by simp)))
  | restarts p pins lost cause hc ht =>
    subst ht
    refine .inr ⟨congrArg LaneUnit.counting (State.restart_lane _ _ l), ?_⟩
    rcases hc with hc | hc | hc | hc <;> simp [hc]
  | entersRun p hc _ _ ht =>
    subst ht
    exact .inr ⟨congrArg LaneUnit.counting (State.enterRun_lane { s with port := p } s.working l), .inl hc⟩
  | configures _ _ ht =>
    subst ht
    rw [State.enterConfiguring_lane]
    exact .inl (same rfl)
  | decides hc _ _ ht =>
    subst ht
    exact .inr ⟨congrArg LaneUnit.counting (State.enterRun_lane _ _ l), .inr (.inl hc)⟩

/-! ## Indicators (R113, R114, R171) -/

theorem State.indicatorOf_of_not_run {s : State} (h : s.startUp.node ≠ .run) (l : Lane) : s.indicatorOf l = .off := if_pos (.inl h)

theorem State.alertOfLane_of_cleared {s : State} (h : ∀ i, (s.slot i).alert = .normal) (l : Lane) : s.alertOfLane l = .normal := by
  unfold State.alertOfLane
  split
  · exact h _
  · rfl

/-- With no notice flag set and every slot NORMAL no indicator shows anything. -/
theorem State.indicatorOf_of_cleared {s : State} {l : Lane} (hn : (s.lane l).notice = LaneNotice.cleared)
    (ha : ∀ i, (s.slot i).alert = .normal) : s.indicatorOf l = .off := by
  unfold State.indicatorOf
  rw [hn, State.alertOfLane_of_cleared ha]
  simp [LaneNotice.cleared]

theorem IndicatorsShown.enterRun (s : State) (cfg : NodeConfig) : IndicatorsShown (s.enterRun cfg) := by
  intro l
  have hn : ((s.enterRun cfg).lane l).notice = LaneNotice.cleared := by rw [State.enterRun_lane]; rfl
  rw [State.indicatorOf_of_cleared hn fun i => by rw [State.enterRun_slot]; rfl, hn]
  rfl

theorem IndicatorsShown.tick {s : State} (hs : IndicatorsShown s) : IndicatorsShown s.tick :=
  IndicatorsShown.of_same (s := s) rfl rfl (fun l => by rw [State.tick_lane]; rfl) (fun i => by rw [State.tick_slot]; rfl) hs

theorem indicatorsShown_kept {c : Instr} {s t : State} (hs : IndicatorsShown s) (heffect : CommandEffect c s t) :
    IndicatorsShown t := by
  cases heffect with
  | keeps h => exact h.shown hs
  | startUp q u h hnode _ ht =>
    subst ht
    exact IndicatorsShown.of_same (s := q) (hnode.trans (congrArg StartUp.node h.startUp).symm) rfl (fun _ => rfl)
      (fun _ => rfl) (h.shown hs)
  | restarts _ _ _ _ _ ht =>
    subst ht
    intro l
    rw [State.indicatorOf_of_not_run (by simp [State.restart]), State.restart_lane]
    rfl
  | entersRun p _ _ _ ht =>
    subst ht
    exact IndicatorsShown.of_same (s := State.enterRun { s with port := p } s.working) rfl rfl (fun _ => rfl) (fun _ => rfl)
      (IndicatorsShown.enterRun _ _)
  | configures _ hnode ht =>
    subst ht
    intro l
    rw [State.indicatorOf_of_not_run (by simp [State.enterConfiguring, StartUp.decided]), State.enterConfiguring_lane]
    exact (hs l).trans (State.indicatorOf_of_not_run (by simp [hnode]) l)
  | decides _ _ _ ht => subst ht; exact IndicatorsShown.enterRun _ _

theorem blinkOn_iff (period clock : Nat) : blinkOn period clock = true ↔ clock % period < period / 2 := by simp [blinkOn]

/-- The drive of a lane's indicator is the first row of R113 whose condition holds. -/
theorem State.indicatorOf_rows (s : State) (l : Lane) (short : Bool)
    (h : short = true ↔ ∃ i, articleSlot s.running (articleOfLane s.running l) = some i ∧
      ((s.slot i).alert = .raised ∨ (s.slot i).alert = .following)) :
    s.indicatorOf l =
      if s.startUp.node ≠ .run ∨ laneEnabled s.running l = false then .off
      else if (s.lane l).notice.audit = true ∨ (s.lane l).notice.fault = true then .steady
      else if (s.lane l).notice.foreign = true then .fastBlink
      else if short = true then .slowBlink
      else .off := by
  have hshort : short = true ↔ s.alertOfLane l = .raised ∨ s.alertOfLane l = .following := by
    rw [h]
    unfold State.alertOfLane
    cases articleSlot s.running (articleOfLane s.running l) <;> simp
  unfold State.indicatorOf
  simp only [Bool.or_eq_true, hshort]

/-- Settles O11: the drives over the kinds of effect that a command can have, and the outputs by cases on the drive. -/
theorem stepKeepsIndicatorsShown : Obligations.StepKeepsIndicatorsShown := by
  refine ⟨?_, fun s l => ⟨State.indicatorOf_rows s l, ?_, fun hc => ?_, fun clock hc => ⟨?_, ?_⟩⟩⟩
  · refine step_preserves (Inv := IndicatorsShown) (fun s _ hs => ?_) (fun c s t => indicatorsShown_kept)
      fun s => IndicatorsShown.tick
    exact IndicatorsShown.of_same (s := s) rfl rfl (fun _ => rfl) (fun _ => rfl) hs
  · unfold State.statusDrive
    cases s.startUp.node <;> cases s.link.state <;> rfl
  · simp [State.laneIndicatorOn, State.statusIndicatorOn, hc]
  · unfold State.laneIndicatorOn
    rw [hc]
    cases (s.lane l).notice.indicator <;> simp [blinkOn_iff, ms]
  · unfold State.statusIndicatorOn
    rw [hc]
    cases s.statusDrive with
    | doubleFlash =>
      simp only [Bool.or_eq_true, Bool.and_eq_true, decide_eq_true_eq]
      simp [ms]
    | _ => simp [blinkOn_iff, ms]

end Sys2Proof.Machine
end

section
/-! A part at rest, outside RUN: what every command does to it leaves the blocks of RUN at rest, unless it enters RUN. With the
timers STOPPED, the lists and the queue empty and the link OFF, an event of RUN finds nothing to do. -/

namespace Sys2Proof.Machine

open Sys2Proof.Config

/-- The blocks that rest outside RUN are the same in two states. -/
structure SameRest (s t : State) : Prop where
  settlers : ∀ l, (t.lane l).settler = (s.lane l).settler := by exact fun _ => rfl
  counts : ∀ l, (t.lane l).counting = (s.lane l).counting := by exact fun _ => rfl
  records : ∀ l, (t.lane l).foreign = (s.lane l).foreign := by exact fun _ => rfl
  notices : ∀ l, (t.lane l).notice = (s.lane l).notice := by exact fun _ => rfl
  matcher : t.matcher = s.matcher := by rfl
  slots : t.slots = s.slots := by rfl
  carriers : t.carriers = s.carriers := by rfl
  settlingIn : t.settlingIn = s.settlingIn := by rfl
  queue : t.queue = s.queue := by rfl
  link : t.link = s.link := by rfl
  mode : t.frontEnd.mode = s.frontEnd.mode := by rfl
  quiet : t.frontEnd.quietTimer = s.frontEnd.quietTimer := by rfl
  spacing : t.frontEnd.spacingTimer = s.frontEnd.spacingTimer := by rfl

theorem AtRest.of_same {s t : State} (h : AtRest s) (g : SameRest s t) : AtRest t where
  settlers l := (g.settlers l).trans (h.settlers l)
  counts l := (g.counts l).trans (h.counts l)
  records l := (g.records l).trans (h.records l)
  notices l := (g.notices l).trans (h.notices l)
  matcher := g.matcher.trans h.matcher
  slots i := (congrArg (fun v : Vector SlotUnit 8 => v[i]) g.slots).trans (h.slots i)
  carriers := g.carriers.trans h.carriers
  settlingIn := g.settlingIn.trans h.settlingIn
  queue := g.queue.trans h.queue
  link := g.link.trans h.link
  mode := g.mode.trans h.mode
  quiet := g.quiet.trans h.quiet
  spacing := g.spacing.trans h.spacing

/-! ## The shared operations at rest -/

theorem AtRest.front {s : State} (h : AtRest s) (f : FrontEnd) (hm : f.mode = s.frontEnd.mode)
    (hq : f.quietTimer = s.frontEnd.quietTimer) (hs : f.spacingTimer = s.frontEnd.spacingTimer) :
    AtRest { s with frontEnd := f } := h.of_same { mode := hm, quiet := hq, spacing := hs }

theorem AtRest.port {s : State} (h : AtRest s) (p : Port) : AtRest { s with port := p } := h.of_same {}

theorem AtRest.enterFast {s : State} (h : AtRest s) : AtRest s.enterFast := by
  have hmode : s.frontEnd.toMode .fast = s.frontEnd := if_pos h.mode
  unfold State.enterFast
  rw [hmode]
  exact h.front _ rfl h.quiet.symm rfl

theorem AtRest.failCapture {s : State} (h : AtRest s) : AtRest s.failCapture := by
  unfold State.failCapture
  split
  · exact h.port _
  · exact h

/-- No slot is evaluated before the settling-in period has ended (R97). -/
theorem AtRest.evaluateAll {s : State} (h : AtRest s) (owed : List Slot) : s.evaluateAll owed = s := by
  unfold State.evaluateAll
  generalize allSlots.filter (fun i => owed.contains i) = is
  have hnone : ∀ i, s.evaluate i = s := fun i => if_neg (by rw [h.settlingIn]; simp)
  induction is with
  | nil => rfl
  | cons i is ih => rw [List.foldl_cons, hnone, ih]

theorem AtRest.mapStation {s : State} (h : AtRest s) (station : Nat) (f : CarrierEntry → Option CarrierEntry) :
    s.mapStation station f = s := by
  have hmap : (s.carriers.map fun p => p.bind fun e => if e.station = station then f e else some e) = s.carriers := by
    rw [h.carriers]; simp
  unfold State.mapStation
  rw [hmap]

/-- The link in OFF hears nothing (R121). -/
theorem AtRest.listens {s : State} (h : AtRest s) : s.link.listens = false := by
  rw [h.link]; rfl

theorem AtRest.receive {s : State} (h : AtRest s) (f : Frame) (dispatch : State → State) : s.receive f dispatch = s :=
  if_pos (by rw [h.link]; rfl)

theorem AtRest.assembles {s : State} (h : AtRest s) (chars : List Byte) : s.link.assembles chars = false := by
  unfold Link.assembles; rw [h.listens]; rfl

theorem AtRest.meetsError {s : State} (h : AtRest s) (e : FramingError) : s.link.meetsError e = false := by
  cases e <;> simp [Link.meetsError, h.listens]

theorem AtRest.conflict {s : State} (h : AtRest s) (f : Frame) : s.conflict f = s :=
  if_neg (by rw [h.assembles]; simp)

theorem AtRest.received {s : State} (h : AtRest s) (f : Frame) (dispatch : State → State) : AtRest (s.receive f dispatch) := by
  rw [h.receive]; exact h

theorem AtRest.conflicted {s : State} (h : AtRest s) (f : Frame) : AtRest (s.conflict f) := by
  rw [h.conflict]; exact h

theorem AtRest.flight {s : State} (h : AtRest s) : s.link.flight = none := by rw [h.link]; rfl

theorem AtRest.endSupplyHold {s : State} (h : AtRest s) : AtRest s.endSupplyHold := by
  have hlane := State.endSupplyHold_lane s
  refine h.of_same { settlers := fun l => ?_, counts := fun l => ?_, records := fun l => ?_, notices := fun l => ?_ } <;>
    rw [hlane]
  rw [h.settlers l]
  rfl

theorem AtRest.failOperation {s : State} (h : AtRest s) : AtRest s.failOperation := by
  unfold State.failOperation
  split
  · exact h
  · exact h.failCapture
  · exact h.failCapture
  · exact h.of_same {}

theorem AtRest.beginSupplyHold {s : State} (h : AtRest s) (hn : s.startUp.node ≠ .run) : AtRest s.beginSupplyHold := by
  have hfront := h.front { s.frontEnd with supplyHold := true, goodRun := 0, conversionsDue := [] } rfl rfl rfl
  unfold State.beginSupplyHold
  dsimp only
  split
  · exact absurd ‹_› hn
  · exact hfront.enterFast.failOperation
  · exact hfront

theorem AtRest.consumeLatch {s : State} (h : AtRest s) (hn : s.startUp.node ≠ .run) : AtRest s.consumeLatch := by
  have hfront := h.front { s.frontEnd with shockLatch := false } rfl rfl rfl
  unfold State.consumeLatch
  split
  · dsimp only
    split
    · exact absurd ‹_› hn
    · exact hfront.failCapture
    · exact hfront
  · exact h

theorem AtRest.beginRound {s : State} (h : AtRest s) : AtRest s.beginRound := by
  have hlane : ∀ l, ∃ n, s.beginRound.lane l = { s.lane l with warmUp := n } := by
    intro l
    have := s.mapLanes_lane (fun l u =>
      if s.selectedLanes.contains l && !s.frontEnd.roundLanes.contains l then { u with warmUp := 8 } else u) l
    by_cases hc : (s.selectedLanes.contains l && !s.frontEnd.roundLanes.contains l) = true
    · exact ⟨8, this.trans (if_pos hc)⟩
    · exact ⟨_, this.trans (if_neg hc)⟩
  refine h.of_same { settlers := fun l => ?_, counts := fun l => ?_, records := fun l => ?_, notices := fun l => ?_ } <;>
    (obtain ⟨n, hl⟩ := hlane l; rw [hl])

/-! ## Captures and the port's parameters -/

theorem AtRest.working {s : State} (h : AtRest s) (c : NodeConfig) (p : Port) : AtRest { s with working := c, port := p } :=
  h.of_same {}

theorem AtRest.captureSample {s : State} (h : AtRest s) (l : Lane) (x : Sample) : AtRest (s.captureSample l x) := by
  have hcomplete : ∀ c, AtRest (s.completeCapture c) := by
    intro c
    unfold State.completeCapture
    dsimp only
    split
    · exact h.working _ _
    · split
      · exact h.working _ _
      · exact h.port _
  unfold State.captureSample
  split
  · exact h
  · split
    · exact h
    · split
      · exact h.failCapture
      · dsimp only
        split
        · exact hcomplete _
        · exact h.port _

/-- What is done reaches the working copy and the port alone. -/
def PortWork (s t : State) : Prop := t = { s with working := t.working, port := t.port }

theorem PortWork.trans {s t u : State} (h : PortWork s t) (g : PortWork t u) : PortWork s u := by
  unfold PortWork at *
  rw [g, h]

theorem State.beginCapture_portWork (s : State) (op : Operation) (l : Lane) (load : Nat) :
    PortWork s (s.beginCapture op l load) := by
  unfold State.beginCapture
  split <;> rfl

theorem State.paramSetStation_portWork (s : State) (b : Byte) : PortWork s (s.paramSetStation b) := by
  unfold State.paramSetStation
  split <;> rfl

theorem State.paramSetLink_portWork (s : State) (params : List Byte) : PortWork s (s.paramSetLink params) := by
  unfold State.paramSetLink
  split
  · split <;> rfl
  · rfl
  · rfl

theorem State.paramSetNeighbours_portWork (s : State) (params : List Byte) : PortWork s (s.paramSetNeighbours params) := by
  unfold State.paramSetNeighbours
  split
  · rfl
  · split
    · rfl
    · split <;> rfl

theorem State.paramCaptureZero_portWork (s : State) (b : Byte) : PortWork s (s.paramCaptureZero b) := by
  unfold State.paramCaptureZero
  split
  · rfl
  · exact s.beginCapture_portWork _ _ _

theorem State.paramCaptureSpan_portWork (s : State) (params : List Byte) : PortWork s (s.paramCaptureSpan params) := by
  unfold State.paramCaptureSpan
  split
  · rfl
  · split
    · rfl
    · split
      · split
        · exact s.beginCapture_portWork _ _ _
        · rfl
      · rfl

theorem State.paramReadLane_portWork (s : State) (b : Byte) : PortWork s (s.paramReadLane b) := by
  unfold State.paramReadLane
  split <;> rfl

theorem State.paramReadSlot_portWork (s : State) (b : Byte) : PortWork s (s.paramReadSlot b) := by
  unfold State.paramReadSlot
  split <;> rfl

theorem State.paramWindow_portWork (s : State) (lo hi : Nat) (params : List Byte) :
    PortWork s (s.paramWindow lo hi params) := by
  unfold State.paramWindow
  split
  · split <;> rfl
  · split <;> rfl
  · rfl

theorem State.applySlotRecord_portWork (s : State) (bytes : List Byte) : PortWork s (s.applySlotRecord bytes) := by
  unfold State.applySlotRecord
  split <;> rfl

theorem State.applyLaneRecord_portWork (s : State) (bytes : List Byte) : PortWork s (s.applyLaneRecord bytes) := by
  unfold State.applyLaneRecord State.refuseRecord
  split
  · rfl
  · split
    · rfl
    · split <;> rfl

theorem State.paramRecord_portWork (s : State) (size : Nat) (apply : State → List Byte → State) (b : Byte)
    (h : ∀ bytes, PortWork s (apply s bytes)) : PortWork s (s.paramRecord size apply b) := by
  unfold State.paramRecord
  dsimp only
  split
  · exact (h _).trans rfl
  · rfl

/-- A parameter byte reaches the working copy and the port alone (R151). -/
theorem State.takeParameter_portWork (s : State) (c : PortCommand) (b : Byte) : PortWork s (s.takeParameter c b) := by
  cases c with
  | setStation => exact s.paramSetStation_portWork b
  | setLink => exact s.paramSetLink_portWork _
  | setNeighbours => exact s.paramSetNeighbours_portWork _
  | writeSlots =>
    show PortWork s (if _ then _ else _)
    split
    · exact s.paramWindow_portWork _ _ _
    · exact s.paramRecord_portWork _ _ _ s.applySlotRecord_portWork
  | writeLanes =>
    show PortWork s (if _ then _ else _)
    split
    · exact s.paramWindow_portWork _ _ _
    · exact s.paramRecord_portWork _ _ _ s.applyLaneRecord_portWork
  | captureZero => exact s.paramCaptureZero_portWork b
  | captureSpan => exact s.paramCaptureSpan_portWork _
  | readLane =>
    show PortWork s (if _ then _ else _)
    split
    · rfl
    · exact s.paramReadLane_portWork b
  | readSlot =>
    show PortWork s (if _ then _ else _)
    split
    · rfl
    · exact s.paramReadSlot_portWork b
  | _ => rfl

theorem AtRest.of_portWork {s t : State} (h : AtRest s) (g : PortWork s t) : AtRest t := by
  rw [g]; exact h.working _ _

theorem AtRest.takeByte {s : State} (h : AtRest s) (b : Byte) (body : State → State)
    (hbody : ∀ p : Port, AtRest { s with port := p } → AtRest (body { s with port := p })) : AtRest (s.takeByte b body) := by
  rcases s.takeByte_cases b body with heq | ⟨p, -, -, -, heq⟩ <;> rw [heq]
  · exact h
  · exact hbody p (h.port p)

theorem AtRest.takeCommand {s : State} (h : AtRest s) (c : PortCommand) (body : State → State)
    (hbody : ∀ p : Port, AtRest { s with port := p } → AtRest (body { s with port := p })) :
    AtRest (s.takeCommand c body) := by
  rcases s.takeCommand_cases c body with ⟨p, -, heq⟩ | ⟨p, -, -, -, heq⟩ <;> rw [heq]
  · exact h.port p
  · exact hbody p (h.port p)

/-! ## Restarts and RUN entry -/

theorem State.restart_atRest (s : State) (cause : RestartCause) : AtRest (s.restart cause) where
  settlers l := by rw [State.restart_lane]; rfl
  counts l := by rw [State.restart_lane]; rfl
  records l := by rw [State.restart_lane]; rfl
  notices l := by rw [State.restart_lane]; rfl
  matcher := rfl
  slots i := State.restart_slot s cause i
  carriers := rfl
  settlingIn := rfl
  queue := rfl
  link := rfl
  mode := rfl
  quiet := rfl
  spacing := rfl

theorem State.enterConfiguring_atRest {s : State} (h : AtRest s) (cfg : NodeConfig) (code : ResultCode) (detail : Nat) :
    AtRest (s.enterConfiguring cfg code detail) := by
  have hlane := s.enterConfiguring_lane cfg code detail
  refine h.of_same
    { settlers := fun l => ?_, counts := fun l => ?_, records := fun l => ?_, notices := fun l => ?_
      mode := h.mode.symm, quiet := h.quiet.symm, spacing := h.spacing.symm } <;>
    rw [hlane]

/-! ## The commands at rest -/

theorem AtRest.of_due {s t : State} {x : Timer} (h : AtRest s) (hx : x = .stopped) :
    AtRest (if x.due = true then t else s) := by
  rw [if_neg (by simp [hx])]; exact h

theorem AtRest.of_ite {s t : State} {p : Prop} [Decidable p] (h : AtRest s) (ht : p → AtRest t) :
    AtRest (if p then t else s) := by
  split
  · exact ht ‹_›
  · exact h

theorem excitationCheck_atRest {s : State} (r : ExcitationReading) (h : AtRest s) (hn : s.startUp.node ≠ .run) :
    ∃ t, exec (.excitationCheck r) s = .next t ∧ AtRest t := by
  have hchecked : AtRest (s.checked (excitationOf r)) := h.front _ rfl rfl rfl
  by_cases hd : s.frontEnd.checkDue = true
  · by_cases hh : s.frontEnd.supplyHold = true
    · refine ⟨_, exec_excitationCheck_in_hold r hd hh, ?_⟩
      unfold State.checkInHold
      split
      · split
        · exact hchecked.endSupplyHold
        · exact hchecked.front _ rfl rfl rfl
      · exact hchecked.front _ rfl rfl rfl
    · refine ⟨_, exec_excitationCheck_outside_hold r hd (by simpa using hh), ?_⟩
      unfold State.checkOutsideHold
      split
      · exact hchecked.front _ rfl rfl rfl
      · split
        · exact (hchecked.front { (s.checked (excitationOf r)).frontEnd with badRun := 0 } rfl rfl rfl).beginSupplyHold hn
        · exact hchecked.front _ rfl rfl rfl
  · refine ⟨s, ?_, h⟩
    show execExcitationCheck r s = _
    simp [execExcitationCheck, takeEvent, hd]

theorem AtRest.setLane {s : State} (h : AtRest s) (l : Lane) (u : LaneUnit) (hs : u.settler = (s.lane l).settler)
    (hc : u.counting = (s.lane l).counting) (hf : u.foreign = (s.lane l).foreign) (hn : u.notice = (s.lane l).notice) :
    AtRest (s.setLane l u) := by
  refine h.of_same { settlers := fun m => ?_, counts := fun m => ?_, records := fun m => ?_, notices := fun m => ?_ }
  all_goals
    by_cases hm : m = l
    · subst hm
      rw [State.setLane_lane_self]
      assumption
    · rw [State.setLane_lane_of_ne _ _ hm]

theorem sampleEvent_atRest {s t : State} (l : Lane) (code : BitVec 24) (first : Bool) (h : AtRest s)
    (hn : s.startUp.node ≠ .run) (ht : exec (.sampleEvent l code first) s = .next t) : AtRest t := by
  have hprior : ({ (s.lane l).counting with priorOffset := none } : CountUnit) = (s.lane l).counting := by
    rw [h.counts l]; rfl
  rw [← takeEvent_eq_next.mp ht]
  refine h.of_ite fun _ => ?_
  have hfront := h.front s.frontEnd.converted rfl rfl rfl
  dsimp only
  rw [hprior]
  split
  · exact hfront.setLane l _ rfl rfl rfl rfl
  · have hlane := hfront.setLane l { s.lane l with
      lastSample := sampleOf (laneOf s.config l) ((s.lane l).counting.arithmeticOffset first) code } rfl rfl rfl rfl
    unfold State.handOn
    split
    · exact absurd ‹_› hn
    · exact hlane.captureSample l _
    · exact hlane

theorem dipFilterExpiry_atRest {s t : State} (h : AtRest s) (hn : s.startUp.node ≠ .run)
    (ht : exec .dipFilterExpiry s = .next t) : AtRest t := by
  rw [← takeEvent_eq_next.mp ht]
  refine h.of_ite fun _ => ?_
  dsimp only
  split
  · exact h.front _ rfl rfl rfl
  · exact (h.front { s.frontEnd with dipFilter := .stopped, lateSample := s.finalSample } rfl rfl rfl).beginSupplyHold hn

theorem start_atRest {s t : State} (h : AtRest s) (ht : exec .start s = .next t) : AtRest t ∨ t.startUp.node = .run := by
  obtain rfl : s.takeCommand .start State.beginRun = t := takeEvent_eq_next.mp ht
  rcases s.takeCommand_cases .start State.beginRun with ⟨p, -, heq⟩ | ⟨p, -, -, -, heq⟩ <;> rw [heq]
  · exact .inl (h.port p)
  · unfold State.beginRun
    split
    · exact .inr rfl
    · exact .inl (h.port _)

theorem startDecision_atRest {s t : State} (h : AtRest s) (ht : exec .startDecision s = .next t) :
    AtRest t ∨ t.startUp.node = .run := by
  rw [← takeEvent_eq_next.mp ht]
  dsimp only
  split
  · split
    · exact .inr rfl
    · exact .inl (State.enterConfiguring_atRest h _ _ _)
  · exact .inl h

/-- Every command leaves a part at rest, outside RUN, at rest, or enters RUN. -/
theorem exec_atRest (c : Instr) {s : State} (h : AtRest s) (hn : s.startUp.node ≠ .run) :
    ∃ t, exec c s = .next t ∧ (AtRest t ∨ t.startUp.node = .run) := by
  have hslot : ∀ i, s.slot i = SlotUnit.cleared := h.slots
  have hbegin : ∀ c p, AtRest { s with port := p } → AtRest (State.beginCommand c { s with port := p }) := fun _ _ hp => hp.port _
  have rest : ∀ {c : Instr}, (∃ t, exec c s = .next t ∧ AtRest t) →
      ∃ t, exec c s = .next t ∧ (AtRest t ∨ t.startUp.node = .run) := fun ⟨t, ht, hr⟩ => ⟨t, ht, .inl hr⟩
  cases c with
  | roundStart => exact rest ⟨_, rfl, (h.of_ite fun _ => (h.consumeLatch hn).beginRound)⟩
  | excitationCheck r => exact rest (excitationCheck_atRest r h hn)
  | sampleEvent l code first => exact rest ⟨_, rfl, sampleEvent_atRest l code first h hn rfl⟩
  | holdTimerExpiry l => exact rest ⟨_, rfl, (h.of_due (by rw [h.settlers l]; rfl))⟩
  | quietTimerExpiry => exact rest ⟨_, rfl, (h.of_due h.quiet)⟩
  | shockComparatorEdge rate =>
    exact rest ⟨_, rfl, h.of_ite fun _ =>
      (h.front { s.frontEnd with comparatorActive := true, shockLatch := true } rfl rfl rfl).enterFast⟩
  | shockSpacingTimerExpiry => exact rest ⟨_, rfl, (h.of_due h.spacing)⟩
  | vddBelowHoldLevel =>
    refine rest ⟨_, rfl, (h.of_ite fun _ => ?_)⟩
    dsimp only
    split
    · exact h.of_same {}
    · exact h.of_same {}
  | vddAtHoldLevel => exact rest ⟨_, rfl, (h.of_same {})⟩
  | dipFilterExpiry => exact rest ⟨_, rfl, dipFilterExpiry_atRest h hn rfl⟩
  | pendingOutExpiry tag =>
    refine rest ⟨_, rfl, ?_⟩
    have hnone : s.pendingOf tag = none := by unfold State.pendingOf; rw [h.matcher]; rfl
    simpa [hnone] using h
  | heardOfferExpiry station tag =>
    refine rest ⟨_, rfl, ?_⟩
    have hnone : s.heardOf station tag = none := by unfold State.heardOf; rw [h.matcher]; rfl
    simpa [hnone] using h
  | carrierEntryStale station =>
    refine rest ⟨_, rfl, ?_⟩
    dsimp only
    rw [h.mapStation, h.evaluateAll]
    exact h
  | carrierEntryRemoved station =>
    refine rest ⟨_, rfl, ?_⟩
    dsimp only
    rw [h.mapStation, h.evaluateAll]
    exact h
  | settlingInExpiry =>
    refine rest ⟨_, rfl, ?_⟩
    simpa [h.settlingIn] using h
  | refreshTimerExpiry i => exact rest ⟨_, rfl, (h.of_due (by rw [hslot]; rfl))⟩
  | takeoverTimerExpiry i => exact rest ⟨_, rfl, (h.of_due (by rw [hslot]; rfl))⟩
  | repeatTimerExpiry i => exact rest ⟨_, rfl, (h.of_due (by rw [hslot]; rfl))⟩
  | muteTimerExpiry i => exact rest ⟨_, rfl, (h.of_due (by rw [hslot]; rfl))⟩
  | noticeTimerExpiry l => exact rest ⟨_, rfl, (h.of_due (by rw [h.notices]; rfl))⟩
  | presenceTimerExpiry => exact rest ⟨_, rfl, (h.of_due (by rw [h.queue]; rfl))⟩
  | shockReception station => exact rest ⟨_, rfl, h.received _ _⟩
  | claimReception station os ot ty => exact rest ⟨_, rfl, h.received _ _⟩
  | offerReception station tag article count grams tol window => exact rest ⟨_, rfl, h.received _ _⟩
  | hushReception station article minutes => exact rest ⟨_, rfl, h.received _ _⟩
  | alertReception station article status combined holding rp => exact rest ⟨_, rfl, h.received _ _⟩
  | noticeReception station lane article flags => exact rest ⟨_, rfl, h.received _ _⟩
  | stockReception station article holding flags => exact rest ⟨_, rfl, h.received _ _⟩
  | presenceReception station rb health => exact rest ⟨_, rfl, h.received _ _⟩
  | addressConflict p => exact rest ⟨_, rfl, h.conflicted _⟩
  | transmissionStart =>
    refine rest ⟨_, rfl, (h.of_ite fun hm => ?_)⟩
    unfold State.mayStart at hm
    simp [h.link, Link.cleared] at hm
  | lostArbitration char bit =>
    refine rest ⟨_, rfl, ?_⟩
    simpa [h.flight] using h
  | readbackFailure char bit =>
    refine rest ⟨_, rfl, ?_⟩
    simpa [h.flight] using h
  | dominantTimeout =>
    refine rest ⟨_, rfl, ?_⟩
    simpa [h.flight] using h
  | transmissionEnd =>
    refine rest ⟨_, rfl, ?_⟩
    simpa [h.flight] using h
  | quarantineExpiry => exact rest ⟨_, rfl, (h.of_ite fun hm => by simp [h.link, Link.cleared] at hm)⟩
  | linkBecomesActive => exact rest ⟨_, rfl, (h.of_ite fun hm => by simp [h.link, Link.cleared] at hm)⟩
  | portSelect =>
    refine rest ⟨_, rfl, ?_⟩
    dsimp only
    split
    · exact h
    · split
      · exact h.of_same {}
      · exact h.of_same {}
  | portDeselect clocked => exact rest ⟨_, rfl, (h.of_ite fun _ => h.of_same {})⟩
  | parameterByte b =>
    refine rest ⟨_, rfl, (h.takeByte b _ fun p hp => ?_)⟩
    split
    · exact (hp.port _).of_portWork (State.takeParameter_portWork _ _ b)
    · exact hp
  | unknownCommand code =>
    refine rest ⟨_, rfl, (h.takeByte code _ fun p hp => ?_)⟩
    obtain ⟨q, -, hend⟩ := State.endPrevious_port { s with port := p }
    dsimp only
    rw [hend]
    split
    · exact hp.port _
    · exact hp.port _
  | setStation => exact rest ⟨_, rfl, (h.takeCommand _ _ (hbegin _))⟩
  | setLink => exact rest ⟨_, rfl, (h.takeCommand _ _ (hbegin _))⟩
  | setNeighbours => exact rest ⟨_, rfl, (h.takeCommand _ _ (hbegin _))⟩
  | writeSlots => exact rest ⟨_, rfl, (h.takeCommand _ _ (hbegin _))⟩
  | writeLanes => exact rest ⟨_, rfl, (h.takeCommand _ _ (hbegin _))⟩
  | captureZero => exact rest ⟨_, rfl, (h.takeCommand _ _ (hbegin _))⟩
  | captureSpan => exact rest ⟨_, rfl, (h.takeCommand _ _ (hbegin _))⟩
  | readLane => exact rest ⟨_, rfl, (h.takeCommand _ _ (hbegin _))⟩
  | readSlot => exact rest ⟨_, rfl, (h.takeCommand _ _ (hbegin _))⟩
  | readStatus => exact rest ⟨_, rfl, (h.takeCommand _ _ fun p hp => hp.port _)⟩
  | readCarriers => exact rest ⟨_, rfl, (h.takeCommand _ _ fun p hp => hp.port _)⟩
  | store =>
    refine rest ⟨_, rfl, (h.takeCommand _ _ fun p hp => ?_)⟩
    unfold State.beginStore
    split
    · exact hp.port _
    · exact hp.of_same {}
  | storeComplete => exact rest ⟨_, rfl, (h.of_ite fun _ => h.of_same {})⟩
  | start => exact ⟨_, rfl, start_atRest h rfl⟩
  | restart => exact rest ⟨_, rfl, (h.takeCommand _ _ fun _ _ => State.restart_atRest _ _)⟩
  | powerOn high => exact rest ⟨_, rfl, (State.restart_atRest _ _)⟩
  | supplyDip => exact rest ⟨_, rfl, (State.restart_atRest _ _)⟩
  | pin => exact rest ⟨_, rfl, (State.restart_atRest _ _)⟩
  | retentionLoss => exact rest ⟨_, rfl, (h.of_ite fun _ => h.of_same {})⟩
  | restartRelease high => exact rest ⟨_, rfl, (h.of_ite fun _ => h.of_same {})⟩
  | startDecision => exact ⟨_, rfl, startDecision_atRest h rfl⟩
  | comparatorOutputInactive rate =>
    refine rest ⟨_, rfl, ?_⟩
    dsimp only
    split
    · exact h
    · exact h.front _ rfl rfl rfl
  | framingError cause => exact rest ⟨_, rfl, (h.of_ite fun hm => by rw [h.meetsError] at hm; cases hm)⟩
  | lineIdle => exact rest ⟨_, rfl, (h.of_ite fun hm => absurd (by rw [h.link]; rfl) hm.1)⟩
  | invalidFrameDropped frame => exact rest ⟨_, rfl, (h.of_ite fun hm => by rw [h.assembles] at hm; cases hm)⟩

/-! ## A tick at rest -/

theorem AtRest.tick {s : State} (h : AtRest s) : AtRest s.tick := by
  refine h.of_same
    { settlers := fun l => ?_, notices := fun l => ?_, counts := fun l => ?_, records := fun l => ?_, matcher := ?_
      slots := ?_, carriers := ?_, settlingIn := ?_, queue := ?_, link := ?_, quiet := ?_, spacing := ?_ }
  · rw [State.tick_lane]; show ({ (s.lane l).settler with holdTimer := _ } : Settler) = _; rw [h.settlers l]; rfl
  · rw [State.tick_lane]; rfl
  · rw [State.tick_lane]; rfl
  · rw [State.tick_lane]; show ({ (s.lane l).notice with timer := _ } : LaneNotice) = _; rw [h.notices l]; rfl
  · show s.matcher.tick = s.matcher; rw [h.matcher]; rfl
  · refine Vector.ext fun i hi => ?_
    have h1 : s.tick.slot ⟨i, hi⟩ = s.slot ⟨i, hi⟩ := by rw [State.tick_slot, h.slots]; rfl
    exact h1
  · show s.carriers.map _ = s.carriers; rw [h.carriers]; simp
  · show s.settlingIn.tick = s.settlingIn; rw [h.settlingIn]; rfl
  · show ({ s.queue with presenceTimer := _ } : TransmitQueue) = _; rw [h.queue]; rfl
  · show s.link.tick _ = s.link
    rw [h.link]
    unfold Link.tick Link.bitTimes
    generalize lineLevels _ _ = levels
    induction levels with
    | nil => rfl
    | cons x rest ih => exact ih
  · show s.frontEnd.quietTimer.pass _ = _; rw [h.quiet]; rfl
  · show s.frontEnd.spacingTimer.pass _ = _; rw [h.spacing]; rfl

/-- Settles O8: in RUN only a restart leaves it, which clears every block; outside RUN every command finds the blocks at rest. -/
theorem stepKeepsRestsOutsideRun : Obligations.StepKeepsRestsOutsideRun := by
  intro s t hs h
  unfold step at h
  split at h
  · cases h
    exact fun hn => (hs hn).tick
  · rename_i c rest _
    intro hn
    by_cases hrun : s.startUp.node = .run
    · obtain ⟨u, hu, heffect⟩ := exec_effect c { s with pending := rest }
      cases hu.symm.trans h
      cases heffect with
      | keeps h => exact absurd ((congrArg StartUp.node h.startUp).trans hrun) hn
      | startUp q u _ hnode _ ht => subst ht; exact absurd (hnode.trans hrun) hn
      | restarts _ _ _ _ _ ht => subst ht; exact State.restart_atRest _ _
      | entersRun _ _ _ _ ht => subst ht; exact absurd rfl hn
      | configures _ hnode _ => exact absurd (hnode.symm.trans hrun) (by decide)
      | decides _ hnode _ _ => exact absurd (hnode.symm.trans hrun) (by decide)
    · have hrest : AtRest { s with pending := rest } := (hs hrun).of_same {}
      obtain ⟨u, hu, heffect⟩ := exec_atRest c hrest hrun
      cases hu.symm.trans h
      exact heffect.resolve_right hn

end Sys2Proof.Machine
end

section
/-! The step (section 0.5, log 2): the front command, the tick with its bit times on the link, the state after reset, and the
silence of a node whose number another station bears. -/

namespace Sys2Proof.Machine

open Sys2Proof.Config

/-! ## One bit time (R117 to R121, R127) -/

theorem Link.level_iff (k : Link) (others : Bool) : k.level others = true ↔ LineRecessive others k := by
  unfold Link.level LineRecessive
  split
  · rename_i f hf
    simp only [hf, Option.some.injEq]
    split
    · rename_i hlt
      constructor
      · intro h
        refine ⟨fun g hg _ => ?_, fun hall => absurd (hall f rfl) (by omega)⟩
        subst hg
        simpa using h
      · rintro ⟨h, -⟩
        simpa using h f rfl hlt
    · rename_i hge
      constructor
      · exact fun h => ⟨fun g hg hlt => absurd hlt (hg ▸ hge), fun _ => h⟩
      · rintro ⟨-, h⟩
        exact h fun g hg => by subst hg; omega
  · rename_i hf
    simp [hf]

theorem Link.sendBit_receiver (k : Link) : k.sendBit.receiver = k.receiver ∧ k.sendBit.buffer = k.buffer ∧
    k.sendBit.bits = k.bits ∧ k.sendBit.recessiveCount = k.recessiveCount ∧ k.sendBit.spacing = k.spacing := by
  unfold Link.sendBit
  split
  · dsimp only
    split <;> exact ⟨rfl, rfl, rfl, rfl, rfl⟩
  · exact ⟨rfl, rfl, rfl, rfl, rfl⟩

/-- The link after its bit before the frame in flight moves on. -/
def Link.heardBit (k : Link) (recessive : Bool) : Link := (k.receiveBit recessive).countBit recessive

theorem Link.bitTime_eq {k : Link} (h : k.state ≠ .off) (others : Bool) :
    k.bitTime others = (k.heardBit (k.level others)).sendBit := if_neg h

theorem Link.heardBit_frame (k : Link) (recessive : Bool) : k.heardBit recessive =
    { k with
      receiver := (k.receiveBit recessive).receiver, buffer := (k.receiveBit recessive).buffer
      bits := (k.receiveBit recessive).bits, recessiveCount := (k.heardBit recessive).recessiveCount
      spacing := (k.heardBit recessive).spacing } := by
  have hcount := Link.countBit_frame (k.receiveBit recessive) recessive
  have hreceive := Link.receiveBit_frame k recessive
  unfold Link.heardBit
  generalize (k.receiveBit recessive).countBit recessive = c at hcount ⊢
  generalize k.receiveBit recessive = r at hreceive hcount ⊢
  exact hcount.trans (by rw [hreceive])

theorem Link.heardBit_recessive (k : Link) : (k.heardBit true).recessiveCount = min 15 (k.recessiveCount + 1) ∧
    (k.heardBit true).spacing = (k.spacing && decide (k.recessiveCount < 14)) := by
  have hr := congrArg Link.recessiveCount (k.receiveBit_frame true)
  have hs := congrArg Link.spacing (k.receiveBit_frame true)
  dsimp only at hr hs
  refine ⟨by simp [Link.heardBit, Link.countBit, hr], ?_⟩
  simp only [Link.heardBit, Link.countBit, if_true, hr, hs]
  by_cases h : k.recessiveCount < 14
  · have : min 15 (k.recessiveCount + 1) ≠ 15 := by omega
    simp [h, this]
  · have : min 15 (k.recessiveCount + 1) = 15 := by omega
    simp [h, this]

theorem Link.heardBit_dominant (k : Link) : (k.heardBit false).recessiveCount = 0 ∧ (k.heardBit false).spacing = false :=
  ⟨rfl, rfl⟩

theorem byteBits_length (b : Byte) : (byteBits b).length = 8 := rfl

theorem Link.sampled_iff (k : Link) : k.sampled = true ↔ 10 ≤ k.bits.length := by simp [Link.sampled]

theorem Link.idleDue_iff (k : Link) : k.idleDue = true ↔
    11 ≤ k.recessiveCount ∧ (k.receiver = .betweenCharacters ∨ k.receiver = .waitingForIdle) := by simp [Link.idleDue]

/-- The receiver over one bit time takes the bit as R121 has it, whatever then becomes of the frame in flight. -/
theorem Link.receiveBit_received (k m : Link) (recessive : Bool) (hm : m.receiver = (k.receiveBit recessive).receiver)
    (hb : m.buffer = (k.receiveBit recessive).buffer) (hbits : m.bits = (k.receiveBit recessive).bits) :
    BitReceived k m recessive := by
  have hsample : k.receiver = .inCharacter → k.receiveBit recessive = k.sampleBit recessive := fun h => by
    unfold Link.receiveBit; rw [h]
  constructor
  · rintro rfl h
    rw [hm, hb, hbits]
    have hdue := k.idleDue_iff
    rcases h with h | ⟨h11, h | h⟩
    · simp [Link.receiveBit, h, Link.startCharacter]
    · simp [Link.receiveBit, h, hdue.mpr ⟨h11, .inl h⟩, Link.startCharacter]
    · simp [Link.receiveBit, h, hdue.mpr ⟨h11, .inr h⟩, Link.startCharacter]
  · rintro rfl h hlt
    have hdue : k.idleDue = false := by simp [Link.idleDue]; omega
    rw [hm, hb, hbits]
    simp [Link.receiveBit, h, hdue, Link.startCharacter]
  · intro h
    rw [hm, hb, hbits]
    have hsame : k.receiveBit recessive = k := by
      rcases h with h | ⟨h, hw⟩ | ⟨h | h, rfl⟩ | ⟨h, hlen⟩
      · simp [Link.receiveBit, h]
      · have hstay : (recessive || !k.idleDue) = true := by
          rcases hw with rfl | hlt
          · rfl
          · simp [Link.idleDue]; omega
        simp [Link.receiveBit, h, hstay]
      · simp [Link.receiveBit, h]
      · simp [Link.receiveBit, h]
      · rw [hsample h, Link.sampleBit, if_pos ((k.sampled_iff).mpr hlen)]
    rw [hsame]
    exact ⟨rfl, rfl, rfl⟩
  · intro h hlen
    have hs : k.sampled = false := by simp [Link.sampled]; omega
    have hne : ¬ ((k.bits ++ [recessive]).length = 10 ∧ recessive = true ∧
        frameGoesOn (k.buffer ++ [charOf (k.bits ++ [recessive])]) = true) := by
      rintro ⟨h10, -⟩
      simp at h10; omega
    rw [hm, hb, hbits, hsample h, Link.sampleBit]
    simp only [hs, Bool.false_eq_true, if_false, if_neg hne]
    exact ⟨h, trivial, trivial⟩
  · intro first char h hbits9
    have hlen : k.bits.length = 9 := by rw [hbits9]; simp [byteBits_length]
    have hs : k.sampled = false := by simp [Link.sampled]; omega
    have hchar : charOf (k.bits ++ [recessive]) = char := by rw [hbits9]; exact charOf_bits first recessive char
    have h10 : (k.bits ++ [recessive]).length = 10 := by simp [hlen]
    have hgo := frameGoesOn_append k.buffer char
    rw [hm, hb, hbits, hsample h, Link.sampleBit]
    simp only [hs, Bool.false_eq_true, if_false, hchar, h10, true_and]
    constructor
    · intro hrec hlens
      have hgoes : frameGoesOn (k.buffer ++ [char]) = true := hgo.mpr fun len hlen => by
        have := hlens len hlen
        omega
      simp [hrec, hgoes]
    · intro hcase
      have hstop : ¬ (recessive = true ∧ frameGoesOn (k.buffer ++ [char]) = true) := by
        rintro ⟨hrec, hgoes⟩
        rcases hcase with hdom | ⟨len, hlen, hbad⟩
        · rw [hdom] at hrec; cases hrec
        · have := hgo.mp hgoes len hlen
          omega
      rw [if_neg hstop]
      exact ⟨h, rfl, rfl⟩

theorem Link.bitTime_isBitTime (others : Bool) (k : Link) : BitTime others k (k.bitTime others) := by
  by_cases hoff : k.state = .off
  · exact
      { off := fun _ => if_pos hoff
        count := fun h => absurd hoff h, receiver := fun h => absurd hoff h, idle := fun h => absurd hoff h
        sent := fun h => absurd hoff h }
  rw [Link.bitTime_eq hoff]
  have hlevel := k.level_iff others
  have hframe := k.heardBit_frame (k.level others)
  obtain ⟨hsr, hsb, hsbits, hscount, hsspacing⟩ := (k.heardBit (k.level others)).sendBit_receiver
  have hflight : (k.heardBit (k.level others)).flight = k.flight := by rw [hframe]
  refine ⟨fun h => absurd h hoff, fun _ => ⟨fun hrec => ?_, fun hdom => ?_⟩, fun _ recessive hr => ?_, fun _ hnone => ?_,
    fun _ f chars hf hchars hlt => ?_⟩
  · rw [hscount, hsspacing, hlevel.mpr hrec]
    exact k.heardBit_recessive
  · rw [hscount, hsspacing, Bool.eq_false_iff.mpr fun h => hdom (hlevel.mp h)]
    exact k.heardBit_dominant
  · have heq : k.level others = recessive := by
      cases recessive with
      | true => exact hlevel.mpr (hr.mp rfl)
      | false => exact Bool.eq_false_iff.mpr fun h => absurd (hr.mpr (hlevel.mp h)) (by simp)
    rw [heq] at hsr hsb hsbits hframe ⊢
    refine k.receiveBit_received _ _ (hsr.trans ?_) (hsb.trans ?_) (hsbits.trans ?_) <;> rw [hframe]
  · have hsend : (k.heardBit (k.level others)).sendBit = k.heardBit (k.level others) := by
      unfold Link.sendBit
      rw [hflight]
      split
      · rename_i f hf
        exact if_neg (by have := hnone f hf; omega)
      · rfl
    rw [hsend]
    conv =>
      lhs
      rw [hframe]
    rw [hframe]
  · subst hchars
    have hinhibited : (k.heardBit (k.level others)).driverInhibited = k.driverInhibited := by rw [hframe]
    have htimer : (k.heardBit (k.level others)).dominantTimer = k.dominantTimer := by rw [hframe]
    have hsend : (k.heardBit (k.level others)).sendBit =
        { k.heardBit (k.level others) with
          flight := some { f with position := f.position + 1 }
          driverInhibited := k.driverInhibited && !bitAt (frameChars f.frame) f.position &&
            !bitAt (frameChars f.frame) (f.position + 1)
          driver :=
            if bitAt (frameChars f.frame) (f.position + 1) || (k.driverInhibited && !bitAt (frameChars f.frame) f.position &&
              !bitAt (frameChars f.frame) (f.position + 1)) then .released else .driving
          dominantTimer :=
            if bitAt (frameChars f.frame) f.position || k.driverInhibited || bitAt (frameChars f.frame) (f.position + 1) then 0
            else min 12 (k.dominantTimer + 1) } := by
      unfold Link.sendBit
      rw [hflight, hf, hinhibited, htimer]
      exact if_pos hlt
    rw [hsend]
    refine ⟨rfl, ?_, ?_, ?_, ?_⟩
    · simp [and_assoc]
    · cases bitAt (frameChars f.frame) (f.position + 1) <;> cases bitAt (frameChars f.frame) f.position <;>
        cases k.driverInhibited <;> simp
    · cases bitAt (frameChars f.frame) (f.position + 1) <;> cases bitAt (frameChars f.frame) f.position <;>
        cases k.driverInhibited <;> simp
    · rw [hframe]

/-! ## A step (section 0.5) -/

/-- Settles O1: the two cases of a step, and a tick block by block. -/
theorem stepRunsFrontCommand : Obligations.StepRunsFrontCommand := by
  refine ⟨fun c rest s h => by rw [step, h], fun d => rfl, rfl, fun s h => ?_⟩
  refine ⟨s.tick, by rw [step, h], rfl, rfl, fun l => by rw [State.tick_lane]; rfl, rfl, fun i => by rw [State.tick_slot]; rfl,
    fun p => by rw [State.tick_carrier]; rfl, fun d hd => ?_, fun hd => ?_, rfl, rfl, ?_, rfl⟩
  · show s.settlingIn.tick = _
    rw [hd]; rfl
  · show s.settlingIn.tick = _
    rcases hd with hd | hd <;> rw [hd] <;> rfl
  · rintro k rfl
    have hlink : s.tick.link = s.link.tick (lineLevels s.running.bitRate s.now) := rfl
    refine ⟨fun hrate => ?_, fun hrate => ?_⟩
    · rw [hlink, hrate]
      exact Link.bitTime_isBitTime _ _
    · rw [hlink, hrate]
      exact ⟨_, Link.bitTime_isBitTime _ _, Link.bitTime_isBitTime _ _⟩

/-! ## Reset (log 4) -/

theorem State.reset_lane (l : Lane) : State.reset.lane l = LaneUnit.cleared := by
  show (Vector.replicate 4 LaneUnit.cleared)[l.idx] = _
  simp

theorem State.reset_slot (i : Slot) : State.reset.slot i = SlotUnit.cleared := by
  show (Vector.replicate 8 SlotUnit.cleared)[i] = _
  simp

/-- Settles O3: the blocks by their cleared values, and each invariant by its form for a cleared part. -/
theorem resetIsClearedAndSound : Obligations.ResetIsClearedAndSound := by
  have hrest : AtRest State.reset :=
    { settlers := fun l => by rw [State.reset_lane]; rfl, counts := fun l => by rw [State.reset_lane]; rfl
      records := fun l => by rw [State.reset_lane]; rfl, notices := fun l => by rw [State.reset_lane]; rfl
      matcher := rfl, slots := State.reset_slot, carriers := rfl, settlingIn := rfl, queue := rfl, link := rfl
      mode := rfl, quiet := rfl, spacing := rfl }
  refine ⟨rfl, rfl, rfl, rfl, rfl, rfl, rfl, rfl, rfl, rfl, rfl, rfl, rfl, rfl, rfl, rfl, rfl, rfl, rfl, rfl, rfl, rfl, rfl,
    rfl, rfl, rfl, rfl, rfl, rfl, rfl, rfl, rfl, rfl, fun l => by rw [State.reset_lane]; exact ⟨rfl, rfl⟩, rfl,
    fun l => by rw [State.reset_lane]; exact LaneUnit.cleared_bounded,
    fun i => by rw [State.reset_slot]; exact SlotUnit.cleared_timed, LinkSound.of_cleared rfl, QueueSound.of_cleared rfl rfl,
    fun _ => hrest, ?_, CarriersSound.of_empty fun p => ?_, fun l => ?_⟩
  · exact ⟨NodeConfig.default_ranged, NodeConfig.default_ranged, fun h => (nomatch h), fun c hc => (nomatch hc)⟩
  · show (Vector.replicate 32 none)[p] = none
    simp
  · rw [State.indicatorOf_of_not_run (by simp [State.reset]), State.reset_lane]
    rfl

/-! ## An address conflict (R134) -/

/-- A link that another station's frame with this node's number has silenced (R134). -/
theorem State.conflict_of_assembles {s : State} {f : Frame} (h : Assembles s (frameChars f)) : s.conflict f =
    { s with link := if s.link.state = .silenced then s.link.received f else (s.link.received f).silence } :=
  if_pos ((Link.assembles_iff s _).mpr h)

theorem State.conflict_of_not {s : State} {f : Frame} (h : ¬ Assembles s (frameChars f)) : s.conflict f = s :=
  if_neg fun ha => h ((Link.assembles_iff s _).mp ha)

/-- No transmission starts outside ACTIVE (R124). -/
theorem exec_transmissionStart_of_state {s : State} (h : s.link.state ≠ .active) : exec .transmissionStart s = .next s := by
  show takeEvent s _ = _
  rw [takeEvent_eq_next, if_neg]
  simp [State.mayStart, h]

theorem State.receive_own {s : State} {f : Frame} {dispatch : State → State} (hown : f.station = s.ownStation)
    (hflight : ∀ g, s.link.flight = some g → g.frame = f → g.position = 10 * (frameChars f).length → g.delivered = true)
    (hdelivery : s.link.ownDelivery ≠ some f) : s.receive f dispatch = s.conflict f := by
  by_cases hoff : s.link.state = .off
  · exact (if_pos hoff).trans (State.conflict_of_not fun ha => ha.receives hoff).symm
  · have hnone : s.link.flight.any (Flight.isOwn f) = false := by
      cases hf : s.link.flight with
      | none => rfl
      | some g =>
        refine Bool.eq_false_iff.mpr fun hg => ?_
        simp only [Option.any_some, Flight.isOwn, Flight.whole, Bool.and_eq_true, decide_eq_true_eq, Bool.not_eq_true'] at hg
        obtain ⟨⟨hframe, hnot⟩, hwhole⟩ := hg
        have hdelivered := hflight g hf hframe (hframe ▸ hwhole)
        rw [hnot] at hdelivered
        cases hdelivered
    rw [State.receive, if_neg hoff, if_pos hown, hnone, if_neg (by simp), if_neg hdelivery]

/-- The receptions differ in the dispatch alone, and a frame that is not the node's own gets none (R134). -/
theorem exec_reception_own {s : State} {f : Frame} (hown : f.station = s.ownStation)
    (hflight : ∀ g, s.link.flight = some g → g.frame = f → g.position = 10 * (frameChars f).length → g.delivered = true)
    (hdelivery : s.link.ownDelivery ≠ some f) : exec f.reception s = .next (s.conflict f) := by
  have hreceive : ∀ dispatch, s.receive f dispatch = s.conflict f := fun _ => State.receive_own hown hflight hdelivery
  obtain ⟨station, payload⟩ := f
  cases payload <;> exact congrArg _ (hreceive _)

theorem Link.sendBit_of_none {k : Link} (h : k.flight = none) : k.sendBit = k := by
  unfold Link.sendBit; rw [h]

/-- A SILENCED link without a frame in flight stays so over any bit times. -/
theorem Link.bitTimes_silenced (levels : List Bool) {k : Link} (hs : k.state = .silenced) (hf : k.flight = none) :
    (k.bitTimes levels).state = .silenced ∧ (k.bitTimes levels).addressConflict = k.addressConflict ∧
      (k.bitTimes levels).flight = none ∧ (k.bitTimes levels).driver = k.driver := by
  unfold Link.bitTimes
  induction levels generalizing k with
  | nil => exact ⟨hs, rfl, hf, rfl⟩
  | cons others rest ih =>
    have hframe := k.heardBit_frame (k.level others)
    have hheard : (k.heardBit (k.level others)).flight = none := by rw [hframe]; exact hf
    have hbit : k.bitTime others = k.heardBit (k.level others) := by
      rw [Link.bitTime_eq (by simp [hs]), Link.sendBit_of_none hheard]
    rw [List.foldl_cons, hbit]
    have hrest := ih (k := k.heardBit (k.level others)) (by rw [hframe]; exact hs) hheard
    rw [hframe] at hrest ⊢
    exact hrest

/-- Settles O50: the conflict by the state that it finds, every reception of a frame with the node's own number as that conflict,
and the silence kept by the effect of each command and by a tick. -/
theorem addressConflictSilences : Obligations.AddressConflictSilences := by
  refine ⟨fun s p frame hframe => ?_, fun c s t hs hf hrest hc1 hc2 hc3 hc4 h => ?_, fun s t hs hf hp h => ?_⟩
  · have hexec : exec (.addressConflict p) s = .next (s.conflict frame) := by rw [hframe]; rfl
    refine ⟨fun ha => ⟨fun hstate => ?_, fun hstate => ?_⟩, fun hna => ?_, fun hflight hdelivery => ?_⟩
    · have hne : s.link.state ≠ .silenced := by rcases hstate with h | h | h <;> simp [h]
      rw [hexec, State.conflict_of_assembles ha, if_neg hne]
      refine ⟨_, rfl, ?_, rfl, exec_transmissionStart_of_state (by simp [Link.silence])⟩
      simp [Link.silence, Link.released, Link.received, Link.completed, Link.seek, ha.free]
    · rw [hexec, State.conflict_of_assembles ha, if_pos hstate]
      refine ⟨_, rfl, rfl, rfl, exec_transmissionStart_of_state ?_⟩
      simp [Link.received, hstate]
    · rw [hexec, State.conflict_of_not hna]
    · rw [hexec, exec_reception_own (by rw [hframe]) hflight hdelivery]
  · obtain ⟨u, hu, heffect⟩ := exec_effect c s
    cases hu.symm.trans h
    cases heffect with
    | keeps hkeep => exact hkeep.silenced hs hf
    | startUp q u hkeep _ _ ht => subst ht; exact hkeep.silenced hs hf
    | restarts _ _ _ _ hc ht =>
      rcases hc with hc | hc | hc | ⟨high, hc⟩
      · exact absurd hc hc1
      · exact absurd hc hc3
      · exact absurd hc hc4
      · exact absurd hc (hc2 high)
    | entersRun _ _ hnode _ ht =>
      have hoff := (hrest (by simp [hnode])).link
      rw [hoff] at hs; cases hs
    | configures _ hnode ht =>
      have hoff := (hrest (by simp [hnode])).link
      rw [hoff] at hs; cases hs
    | decides _ hnode _ ht =>
      have hoff := (hrest (by simp [hnode])).link
      rw [hoff] at hs; cases hs
  · rw [step, hp] at h
    cases h
    exact Link.bitTimes_silenced (k := { s.link with quarantineTimer := s.link.quarantineTimer.pass Config.tick }) _ hs hf

end Sys2Proof.Machine
end

section
/-! The weighing front end (chapter 1): rounds, the consumed shock latch, the beginning of supply hold, the dip filter, the
comparator and the timers of the scan. -/

namespace Sys2Proof.Machine

open Sys2Proof.Config

/-! ## Scan mode and quiet condition (R2, R7, R8) -/

theorem FrontEnd.toMode_eq (m : ScanMode) (f : FrontEnd) : f.toMode m =
    { f with mode := m, roundTimer := if f.mode = m then f.roundTimer else .running (period m - f.sinceRound) } := by
  unfold FrontEnd.toMode
  split
  · rename_i h; rw [← h]
  · rfl

theorem State.enterFast_eq (s : State) : s.enterFast = { s with frontEnd := { s.frontEnd with
    mode := .fast, quietTimer := .stopped
    roundTimer := if s.frontEnd.mode = .fast then s.frontEnd.roundTimer else .running (20000 - s.frontEnd.sinceRound) } } := by
  unfold State.enterFast
  rw [FrontEnd.toMode_eq]
  rfl

theorem State.quiet_eq_false {s : State} {l : Lane} (he : laneEnabled s.running l = true)
    (h : (s.lane l).settler.state ≠ some .stable ∧ (s.lane l).settler.state ≠ some .fault) : s.quiet = false := by
  refine Bool.eq_false_iff.mpr fun hq => ?_
  have := List.all_eq_true.mp hq l (List.mem_filter.mpr ⟨mem_allLanes l, he⟩)
  simp [h.1, h.2] at this

theorem State.testQuiet_eq (s : State) :
    s.testQuiet = { s with frontEnd := { s.frontEnd with quietTimer := s.testQuiet.frontEnd.quietTimer } } := by
  unfold State.testQuiet
  split <;> rfl

/-- In RUN a lane that is neither STABLE nor in FAULT stops the quiet timer at a test (R8). -/
theorem State.testQuiet_of_not_quiet {s : State} (hn : s.startUp.node = .run) (hq : s.quiet = false) :
    s.testQuiet = { s with frontEnd := { s.frontEnd with quietTimer := .stopped } } := by
  simp [State.testQuiet, hn, hq]

theorem State.laneStates_eq_iff (s t : State) :
    s.laneStates = t.laneStates ↔ ∀ l, (s.lane l).settler.state = (t.lane l).settler.state := by
  unfold State.laneStates
  rw [List.map_inj_left]
  exact ⟨fun h l => h l (mem_allLanes l), fun h l _ => h l⟩

theorem State.leftRest_iff (before after : State) : before.leftRest after = true ↔ ∃ l,
    ((before.lane l).settler.state = some .stable ∨ (before.lane l).settler.state = some .fault) ∧
      (after.lane l).settler.state ≠ (before.lane l).settler.state := by
  unfold State.leftRest
  simp only [List.any_eq_true, Bool.and_eq_true, Bool.or_eq_true, decide_eq_true_eq]
  exact ⟨fun ⟨l, _, h⟩ => ⟨l, h⟩, fun ⟨l, h⟩ => ⟨l, mem_allLanes l, h⟩⟩

theorem State.settleFrontEnd_of_same {s before : State}
    (h : ∀ l, (s.lane l).settler.state = (before.lane l).settler.state) : s.settleFrontEnd before = s :=
  if_pos ((State.laneStates_eq_iff s before).mpr h)

theorem State.settleFrontEnd_of_left {s before : State} (h : before.leftRest s = true) :
    s.settleFrontEnd before = s.enterFast.testQuiet := by
  have hne : s.laneStates ≠ before.laneStates := by
    obtain ⟨l, -, hl⟩ := (State.leftRest_iff before s).mp h
    exact fun hsame => hl ((State.laneStates_eq_iff s before).mp hsame l)
  rw [State.settleFrontEnd, if_neg hne, if_pos h]

theorem State.settleFrontEnd_of_moved {s before : State} {l : Lane}
    (hl : (s.lane l).settler.state ≠ (before.lane l).settler.state) (h : before.leftRest s = false) :
    s.settleFrontEnd before = s.testQuiet := by
  have hne : s.laneStates ≠ before.laneStates := fun hsame => hl ((State.laneStates_eq_iff s before).mp hsame l)
  rw [State.settleFrontEnd, if_neg hne, if_neg (by simp [h])]

/-! ## Rounds (R1, R2, R5) -/

theorem exec_roundStart_not {s : State} (h : s.startUp.node = .starting ∨ s.frontEnd.roundTimer ≠ .running 0) :
    exec .roundStart s = .next s := by
  show takeEvent s _ = _
  rw [takeEvent_eq_next, if_neg]
  rintro ⟨hn, hd⟩
  rcases h with h | h
  · exact hn h
  · exact h ((Timer.due_iff _).mp hd)

theorem exec_roundStart {s : State} (hn : s.startUp.node ≠ .starting) (hd : s.frontEnd.roundTimer = .running 0) :
    exec .roundStart s = .next s.consumeLatch.beginRound := by
  show takeEvent s _ = _
  rw [takeEvent_eq_next, if_pos ⟨hn, by simp [hd]⟩]

theorem period_eq (m : ScanMode) : period m = if m = .fast then 20000 else 200000 := by cases m <;> rfl

theorem State.beginRound_frontEnd (s : State) : s.beginRound.frontEnd = { s.frontEnd with
    roundTimer := .running (if s.frontEnd.mode = .fast then 20000 else 200000), sinceRound := 0, checkDue := true
    conversionsDue := s.selectedLanes, roundLanes := s.selectedLanes, lateSample := none
    comparatorActive := s.frontEnd.comparatorActive && decide (s.selectedLanes ≠ []) } := by
  have hempty : (!s.selectedLanes.isEmpty) = decide (s.selectedLanes ≠ []) := by cases s.selectedLanes <;> rfl
  rw [← period_eq, ← hempty]
  rfl

theorem State.beginRound_lane (s : State) (l : Lane) : s.beginRound.lane l =
    if l ∈ s.selectedLanes ∧ l ∉ s.frontEnd.roundLanes then { s.lane l with warmUp := 8 } else s.lane l := by
  refine (s.mapLanes_lane (fun l u =>
    if s.selectedLanes.contains l && !s.frontEnd.roundLanes.contains l then { u with warmUp := 8 } else u) l).trans ?_
  simp

theorem State.beginRound_frame (s : State) :
    s.beginRound = { s with frontEnd := s.beginRound.frontEnd, lanes := s.beginRound.lanes } := rfl

theorem State.selectedLanes_eq {s : State} (hn : s.startUp.node ≠ .starting) : s.selectedLanes =
    [Lane.l1, Lane.l2, Lane.l3, Lane.l4].filter (fun l =>
      if s.startUp.node = .run then (laneOf s.running l).enabled
      else (laneOf s.working l).enabled || decide (s.port.capture.map Capture.lane = some l)) := by
  unfold State.selectedLanes
  cases h : s.startUp.node with
  | starting => exact absurd h hn
  | configuring => rfl
  | run => rfl

theorem State.consumeLatch_of_clear {s : State} (h : s.frontEnd.shockLatch = false) : s.consumeLatch = s :=
  if_neg (by simp [h])

/-- Settles O13: what a round's beginning does to the front end and to each lane. -/
theorem roundStartBeginsTheRound : Obligations.RoundStartBeginsTheRound := by
  intro s
  refine ⟨exec_roundStart_not, fun hn hd hlatch => ?_⟩
  refine ⟨_, s.beginRound, ?_, rfl, ?_, ?_, fun _ l => ?_, State.beginRound_frame s⟩
  · rw [exec_roundStart hn hd, State.consumeLatch_of_clear hlatch]
  · rw [State.beginRound_frontEnd, State.selectedLanes_eq hn]
  · intro l
    rw [State.beginRound_lane, State.selectedLanes_eq hn]
  · simp [State.conversionDue, State.beginRound_frontEnd]

/-! ## The consumed latch (R10 to R12) -/

theorem State.mapSettlers_lane (s : State) (f : Settler → Settler) (l : Lane) : (s.mapSettlers f).lane l =
    if laneEnabled s.running l = true then { s.lane l with settler := f (s.lane l).settler } else s.lane l :=
  s.mapLanes_lane (fun l u => if laneEnabled s.running l then { u with settler := f u.settler } else u) l

theorem Settler.timedHold_state (d : Nat) (t : Settler) : (t.timedHold d).state =
    if t.state = none ∨ t.state = some .fault then t.state else some .held := by
  unfold Settler.timedHold Settler.enterHeld
  split
  case h_1 h => simp [h]
  case h_2 h => simp [h]
  case h_3 h => simp [h]
  case h_4 st h1 h2 h3 =>
    have hst : st ≠ .fault := h1
    simp [h3, hst]

theorem Settler.timedHold_of_free {d : Nat} {t : Settler}
    (h : t.state = some .moving ∨ t.state = some .settling ∨ t.state = some .stable) : t.timedHold d =
      { t with state := some .held, window := [], settleCounter := 0, motionRun := 0, holdTimer := .running d } := by
  unfold Settler.timedHold
  rcases h with h | h | h <;> rw [h] <;> rfl

theorem Settler.timedHold_of_held {d : Nat} {t : Settler} (h : t.state = some .held) :
    t.timedHold d = { t with holdTimer := .running (max t.holdTimer.remaining d) } := by
  unfold Settler.timedHold
  rw [h]; rfl

theorem Settler.timedHold_of_fault {d : Nat} {t : Settler} (h : t.state = some .fault) : t.timedHold d = t := by
  unfold Settler.timedHold
  rw [h]

/-- A lane is free to be held: MOVING, SETTLING or STABLE (R25). -/
def LaneFree (s : State) (l : Lane) : Prop :=
  (s.lane l).settler.state = some .moving ∨ (s.lane l).settler.state = some .settling ∨
    (s.lane l).settler.state = some .stable

theorem Settler.timedHold_changes_iff (d : Nat) (t : Settler) : (t.timedHold d).state ≠ t.state ↔
    (t.state = some .moving ∨ t.state = some .settling ∨ t.state = some .stable) := by
  rw [Settler.timedHold_state]
  rcases ht : t.state with _ | st
  · simp
  · cases st <;> simp

theorem State.timedHold_changes_iff (s : State) (d : Nat) (l : Lane) :
    ((s.mapSettlers (Settler.timedHold d)).lane l).settler.state ≠ (s.lane l).settler.state ↔
      laneEnabled s.running l = true ∧ LaneFree s l := by
  rw [State.mapSettlers_lane]
  by_cases he : laneEnabled s.running l = true
  · rw [if_pos he]
    exact (Settler.timedHold_changes_iff d _).trans ⟨fun h => ⟨he, h⟩, fun h => h.2⟩
  · simp [he]

/-- The front end's part of a timed hold: FAST when a STABLE lane is held, and the quiet timer STOPPED when any lane becomes
HELD (R7, R8). -/
theorem State.holdLanes_frontEnd {s : State} (hn : s.startUp.node = .run) (d : Nat) {left held : Bool}
    (hleft : left = true ↔ ∃ l, laneEnabled s.running l = true ∧ (s.lane l).settler.state = some .stable)
    (hheld : held = true ↔ ∃ l, laneEnabled s.running l = true ∧ LaneFree s l) :
    (s.holdLanes d).frontEnd = { s.frontEnd with
      mode := if left = true then .fast else s.frontEnd.mode
      quietTimer := if held = true then .stopped else s.frontEnd.quietTimer
      roundTimer := if left = true ∧ s.frontEnd.mode ≠ .fast then .running (20000 - s.frontEnd.sinceRound)
        else s.frontEnd.roundTimer } := by
  have hchanged := s.timedHold_changes_iff d
  have hfree : left = true → held = true := fun h => by
    obtain ⟨l, he, hl⟩ := hleft.mp h
    exact hheld.mpr ⟨l, he, .inr (.inr hl)⟩
  have hquiet : held = true → ∀ v : State, v.running = s.running →
      v.lanes = (s.mapSettlers (Settler.timedHold d)).lanes → v.quiet = false := by
    intro h v hr hv
    obtain ⟨l, he, hl⟩ := hheld.mp h
    have hstate : (v.lane l).settler.state = some .held := by
      have hlane : v.lane l = (s.mapSettlers (Settler.timedHold d)).lane l := congrArg (fun u : Vector LaneUnit 4 => u[l.idx]) hv
      rw [hlane, State.mapSettlers_lane, if_pos he, Settler.timedHold_of_free hl]
    exact State.quiet_eq_false (hr ▸ he) (by simp [hstate])
  have hleftRest : s.leftRest (s.mapSettlers (Settler.timedHold d)) = true ↔ left = true := by
    rw [State.leftRest_iff, hleft]
    constructor
    · rintro ⟨l, hrest, hne⟩
      obtain ⟨he, hl⟩ := (hchanged l).mp hne
      refine ⟨l, he, hrest.resolve_right fun hfault => ?_⟩
      rcases hl with h | h | h <;> rw [hfault] at h <;> cases h
    · rintro ⟨l, he, hl⟩
      exact ⟨l, .inl hl, (hchanged l).mpr ⟨he, .inr (.inr hl)⟩⟩
  unfold State.holdLanes
  cases hh : held with
  | false =>
    have hnone : left = false := Bool.eq_false_iff.mpr fun h => by rw [hfree h] at hh; cases hh
    rw [State.settleFrontEnd_of_same, hnone]
    · rfl
    · intro l
      refine Classical.byContradiction fun hne => ?_
      have := hheld.mpr ⟨l, (hchanged l).mp hne⟩
      rw [this] at hh; cases hh
  | true =>
    cases hl : left with
    | true =>
      rw [State.settleFrontEnd_of_left (hleftRest.mpr hl), State.testQuiet_of_not_quiet, State.enterFast_eq]
      · by_cases hm : s.frontEnd.mode = .fast <;> simp [State.mapSettlers, hm]
      · exact hn
      · exact hquiet hh _ rfl rfl
    | false =>
      obtain ⟨l, hfl⟩ := hheld.mp hh
      rw [State.settleFrontEnd_of_moved ((hchanged l).mpr hfl), State.testQuiet_of_not_quiet]
      · simp [State.mapSettlers]
      · exact hn
      · exact hquiet hh _ rfl rfl
      · exact Bool.eq_false_iff.mpr fun h => by rw [hleftRest.mp h] at hl; cases hl

theorem State.settleFrontEnd_frame (s before : State) :
    s.settleFrontEnd before = { s with frontEnd := (s.settleFrontEnd before).frontEnd } := by
  unfold State.settleFrontEnd
  split
  · rfl
  · split
    · rw [State.enterFast_eq, State.testQuiet_eq]
    · rw [State.testQuiet_eq]

/-- The front end's part of a change of lane states is the scan mode, the quiet timer and the next round's start. -/
theorem State.settleFrontEnd_frontEnd (s before : State) : (s.settleFrontEnd before).frontEnd = { s.frontEnd with
    mode := (s.settleFrontEnd before).frontEnd.mode, quietTimer := (s.settleFrontEnd before).frontEnd.quietTimer
    roundTimer := (s.settleFrontEnd before).frontEnd.roundTimer } := by
  unfold State.settleFrontEnd
  split
  · rfl
  · split
    · rw [State.enterFast_eq, State.testQuiet_eq]
    · rw [State.testQuiet_eq]

theorem State.holdLanes_spacing (s : State) (d : Nat) :
    (s.holdLanes d).frontEnd.spacingTimer = s.frontEnd.spacingTimer ∧
      (s.holdLanes d).frontEnd.roundLanes = s.frontEnd.roundLanes := by
  unfold State.holdLanes
  rw [State.settleFrontEnd_frontEnd]
  exact ⟨rfl, rfl⟩

theorem State.holdLanes_frame (s : State) (d : Nat) :
    s.holdLanes d = { s with frontEnd := (s.holdLanes d).frontEnd, lanes := (s.holdLanes d).lanes } := by
  unfold State.holdLanes
  rw [State.settleFrontEnd_frame]
  rfl

theorem State.holdLanes_lane (s : State) (d : Nat) (l : Lane) : (s.holdLanes d).lane l =
    if laneEnabled s.running l = true then { s.lane l with settler := (s.lane l).settler.timedHold d } else s.lane l := by
  refine Eq.trans ?_ (s.mapSettlers_lane (Settler.timedHold d) l)
  unfold State.holdLanes
  rw [State.settleFrontEnd_frame]
  rfl

/-- The SHOCK request that a consumed latch owes, unless the spacing timer runs (R11). -/
theorem State.considerShock_eq (s : State) : s.considerShock = { s with
    frontEnd := { s.frontEnd with spacingTimer :=
      if s.frontEnd.spacingTimer = .stopped then .running 1000000 else s.frontEnd.spacingTimer }
    queue := if s.frontEnd.spacingTimer = .stopped then (s.place .shock).queue else s.queue } := by
  unfold State.considerShock
  cases h : s.frontEnd.spacingTimer with
  | stopped => rfl
  | running d => simp [Timer.isRunning]; rw [← h]

/-- The latch cleared, before a consumed latch has any effect (R10). -/
def State.clearLatch (s : State) : State := { s with frontEnd := { s.frontEnd with shockLatch := false } }

theorem State.consumeLatch_of_run {s : State} (hn : s.startUp.node = .run) (h : s.frontEnd.shockLatch = true) :
    s.consumeLatch = (s.clearLatch.holdLanes 1500000).considerShock := by
  unfold State.consumeLatch
  rw [if_pos h, hn]
  rfl

theorem State.consumeLatch_of_configuring {s : State} (hn : s.startUp.node = .configuring) (h : s.frontEnd.shockLatch = true) :
    s.consumeLatch = s.clearLatch.failCapture := by
  unfold State.consumeLatch
  rw [if_pos h, hn]
  rfl

theorem State.consumeLatch_run_frame {s : State} (hn : s.startUp.node = .run) (h : s.frontEnd.shockLatch = true) :
    s.consumeLatch = { s with
      frontEnd := s.consumeLatch.frontEnd, lanes := s.consumeLatch.lanes
      queue := if s.frontEnd.spacingTimer = .stopped then (s.place .shock).queue else s.queue } := by
  have hspacing : (s.clearLatch.holdLanes 1500000).frontEnd.spacingTimer = s.frontEnd.spacingTimer :=
    (State.holdLanes_spacing _ _).1
  rw [State.consumeLatch_of_run hn h, State.considerShock_eq, hspacing, State.holdLanes_frame]
  rfl

theorem State.consumeLatch_run_lane {s : State} (hn : s.startUp.node = .run) (h : s.frontEnd.shockLatch = true) (l : Lane) :
    s.consumeLatch.lane l = if laneEnabled s.running l = true then
      { s.lane l with settler := (s.lane l).settler.timedHold 1500000 } else s.lane l := by
  rw [State.consumeLatch_of_run hn h, State.considerShock_eq]
  exact s.clearLatch.holdLanes_lane 1500000 l

/-- Settles O14: the hold of the consumed latch, its SHOCK request, and the round that follows. -/
theorem consumedLatchHoldsLanes : Obligations.ConsumedLatchHoldsLanes := by
  intro s hn hd hlatch
  have hstart : s.startUp.node ≠ .starting := by simp [hn]
  have hframe := State.consumeLatch_run_frame hn hlatch
  have hqueue : s.consumeLatch.queue =
      if s.frontEnd.spacingTimer = .stopped then (s.place .shock).queue else s.queue := congrArg State.queue hframe
  have hlane := State.consumeLatch_run_lane hn hlatch
  have hlanes : s.consumeLatch.selectedLanes = [Lane.l1, Lane.l2, Lane.l3, Lane.l4].filter (laneEnabled s.running) := by
    rw [State.selectedLanes_eq (by rw [hframe]; exact hstart), hframe]
    simp only [hn, if_true]
    rfl
  have hround : s.consumeLatch.frontEnd.roundLanes = s.frontEnd.roundLanes := by
    rw [State.consumeLatch_of_run hn hlatch, State.considerShock_eq]
    exact (State.holdLanes_spacing _ _).2
  have hlane' : ∀ l, s.consumeLatch.beginRound.lane l = { s.lane l with
      settler := if laneEnabled s.running l = true then (s.lane l).settler.timedHold 1500000 else (s.lane l).settler
      warmUp := if l ∈ [Lane.l1, Lane.l2, Lane.l3, Lane.l4].filter (laneEnabled s.running) ∧ l ∉ s.frontEnd.roundLanes then 8
        else (s.lane l).warmUp } := by
    intro l
    rw [State.beginRound_lane, hlanes, hround, hlane]
    split <;> split <;> rfl
  refine ⟨s.consumeLatch.beginRound, _, exec_roundStart hstart hd, rfl, fun l he hfree => ?_, fun l he hheld => ?_,
    fun l hor => ?_, fun l => ?_, fun left held hleft hheld => ?_, ?_, ?_⟩
  · rw [hlane', ← Settler.timedHold_of_free hfree]
    exact if_pos he
  · rw [hlane', ← Settler.timedHold_of_held hheld]
    exact if_pos he
  · rw [hlane']
    dsimp only
    split
    · rename_i he
      exact Settler.timedHold_of_fault (hor.resolve_left (by simp [he]))
    · rfl
  · rw [hlane']
  · have hfront := State.holdLanes_frontEnd (s := s.clearLatch) hn 1500000 hleft hheld
    rw [State.beginRound_frontEnd, hlanes, State.consumeLatch_of_run hn hlatch, State.considerShock_eq, hfront]
    have hperiod : (if left = true then ScanMode.fast else s.frontEnd.mode) = .fast ↔ left = true ∨ s.frontEnd.mode = .fast := by
      cases left <;> simp
    simp only [State.clearLatch, hperiod]
    rfl
  · exact hqueue
  · rw [← hqueue] at hframe
    exact congrArg (fun u : State =>
      { u with frontEnd := s.consumeLatch.beginRound.frontEnd, lanes := s.consumeLatch.beginRound.lanes }) hframe

/-- Settles O15: the latch ends a capture, and the round takes its lanes after that. -/
theorem configuringLatchFailsCapture : Obligations.ConfiguringLatchFailsCapture := by
  intro s hn hd hlatch
  have hstart : s.startUp.node ≠ .starting := by simp [hn]
  have hconsume := State.consumeLatch_of_configuring hn hlatch
  have hfail : s.clearLatch.failCapture = { s.clearLatch with port := s.clearLatch.failCapture.port } ∧
      s.clearLatch.failCapture.port.capture = none := by
    unfold State.failCapture
    split
    · exact ⟨rfl, rfl⟩
    · exact ⟨rfl, ‹_›⟩
  have hlanes : s.consumeLatch.selectedLanes = [Lane.l1, Lane.l2, Lane.l3, Lane.l4].filter (laneEnabled s.working) := by
    rw [hconsume, State.selectedLanes_eq (by rw [hfail.1]; exact hstart), hfail.2, hfail.1]
    simp only [State.clearLatch, hn]
    simp only [Option.map_none, reduceCtorEq, decide_false, Bool.or_false, if_false]
    rfl
  refine ⟨s.consumeLatch.beginRound, _, exec_roundStart hstart hd, rfl, ?_, fun l => ?_, fun c hc => ?_, fun hc => ?_, ?_⟩
  · rw [State.beginRound_frontEnd, hlanes, hconsume, hfail.1]
    rfl
  · rw [State.beginRound_lane, hlanes, hconsume, hfail.1]
    rfl
  · show s.consumeLatch.port = _
    rw [hconsume]
    unfold State.failCapture
    have hcc : s.clearLatch.port.capture = some c := hc
    rw [hcc]
    rfl
  · show s.consumeLatch.port = _
    rw [hconsume]
    unfold State.failCapture
    have hcc : s.clearLatch.port.capture = none := hc
    rw [hcc]
    rfl
  · rw [State.beginRound_frame, hconsume, hfail.1]
    rfl

end Sys2Proof.Machine
end

section
/-! The weighing front end (chapter 1), continued: the beginning of supply hold, the dip filter, the comparator and the timers
of the scan. -/

namespace Sys2Proof.Machine

open Sys2Proof.Config

/-- A timer's expiry acts where the timer has run out, and on nothing else. -/
theorem next_of_due {t u : State} {timer : Timer} (h : timer = .running 0) :
    (Host.Outcome.next (if timer.due then t else u) : Result) = .next t := by rw [if_pos (by simp [h])]

theorem next_of_not_due {t u : State} {timer : Timer} (h : timer ≠ .running 0) :
    (Host.Outcome.next (if timer.due then t else u) : Result) = .next u := by rw [if_neg (by simp [h])]

/-! ## The dip filter (R14) -/

/-- The front end after the dip filter's expiry: the filter STOPPED, and the sample that falls together with it (R14, R161). -/
def State.dipExpired (s : State) (late : Option Lane) : State :=
  { s with frontEnd := { s.frontEnd with dipFilter := .stopped, lateSample := late } }

theorem exec_dipFilterExpiry_not {s : State} (h : s.frontEnd.dipFilter ≠ .running 0) : exec .dipFilterExpiry s = .next s := by
  show takeEvent s _ = _
  rw [takeEvent_eq_next, if_neg (by simp [h])]

theorem exec_dipFilterExpiry_in_hold {s : State} (hd : s.frontEnd.dipFilter = .running 0) (hh : s.frontEnd.supplyHold = true) :
    exec .dipFilterExpiry s = .next { s with frontEnd := { s.frontEnd with dipFilter := .stopped } } := by
  show takeEvent s _ = _
  rw [takeEvent_eq_next, if_pos (by simp [hd]), if_pos hh]

theorem exec_dipFilterExpiry {s : State} (hd : s.frontEnd.dipFilter = .running 0) (hh : s.frontEnd.supplyHold = false) :
    exec .dipFilterExpiry s = .next (s.dipExpired s.finalSample).beginSupplyHold := by
  show takeEvent s _ = _
  rw [takeEvent_eq_next, if_pos (by simp [hd]), if_neg (by simp [hh])]
  rfl

theorem State.finalSample_iff (s : State) (l : Lane) : s.finalSample = some l ↔ s.startUp.node = .configuring ∧
    ∃ c, s.port.capture = some c ∧ c.lane = l ∧ c.samples = 31 ∧ (s.lane l).warmUp = 0 ∧ s.conversionDue l = true := by
  unfold State.finalSample
  rw [Option.bind_eq_some_iff]
  constructor
  · rintro ⟨c, hc, h⟩
    split at h
    · rename_i hif
      obtain ⟨hn, h31, hw, hdue⟩ := hif
      cases h
      exact ⟨hn, c, hc, rfl, h31, hw, hdue⟩
    · cases h
  · rintro ⟨hn, c, hc, rfl, h31, hw, hdue⟩
    exact ⟨c, hc, if_pos ⟨hn, h31, hw, hdue⟩⟩

/-- Settles O19: the filter's start, stop and expiry. -/
theorem dipFilterTimesDips : Obligations.DipFilterTimesDips := by
  intro s hn
  refine ⟨fun hv hd => ?_, fun d hv hd => ?_, fun hv => ?_, rfl, exec_dipFilterExpiry_not, exec_dipFilterExpiry_in_hold,
    fun hd hh => ⟨s.finalSample, fun hrun => ?_, exec_dipFilterExpiry hd hh⟩⟩
  · show takeEvent s _ = _
    rw [takeEvent_eq_next, if_pos hv, if_neg (by simp [hn, hd, Timer.isRunning])]
    rfl
  · show takeEvent s _ = _
    rw [takeEvent_eq_next, if_pos hv, if_pos (by simp [hd, Timer.isRunning])]
  · show takeEvent s _ = _
    rw [takeEvent_eq_next, if_neg hv]
  · refine Option.eq_none_iff_forall_ne_some.mpr fun l h => ?_
    have := ((s.finalSample_iff l).mp h).1
    rw [hrun] at this
    cases this

/-! ## The comparator and the scan's timers (R2, R8, R9, R11) -/

theorem State.config_shockLevel (s : State) :
    s.config.shockLevel = if s.startUp.node = .run then s.running.shockLevel else s.working.shockLevel := by
  unfold State.config
  split <;> rfl

/-- The comparator's test against the threshold of the level in force (R9, R154). -/
theorem State.shocks_of_threshold {s : State} (rate : SignalRate) {threshold : Nat}
    (h : shockThreshold s.config.shockLevel = threshold) :
    (threshold * rate.den < 10000 * rate.num.natAbs → s.shocks rate = true) ∧
      (10000 * rate.num.natAbs ≤ threshold * rate.den → s.shocks rate = false) := by
  rw [← h]
  exact ⟨(s.shocks_iff rate).mpr, fun hle => Bool.eq_false_iff.mpr fun hs => by
    have := (s.shocks_iff rate).mp hs
    omega⟩

/-- Settles O20: the comparator by its threshold, and the two timers by whether they have run out. -/
theorem comparatorAndScanTimers : Obligations.ComparatorAndScanTimers := by
  intro s
  refine ⟨fun rate level threshold _ hlevel htable => ?_, next_of_due, next_of_not_due, fun h => ?_, next_of_not_due⟩
  · have hthreshold : shockThreshold s.config.shockLevel = threshold := by
      rw [State.config_shockLevel, ← hlevel]
      rcases htable with ⟨h1, h2⟩ | ⟨h1, h2⟩ | ⟨h1, h2⟩ | ⟨h1, h2⟩ <;> rw [h1, h2] <;> rfl
    obtain ⟨hover, hunder⟩ := State.shocks_of_threshold rate hthreshold
    refine ⟨fun h => ⟨fun ha hl => ?_, fun hor => ?_, ?_⟩, fun h => ⟨?_, ?_⟩⟩
    · show takeEvent s _ = _
      rw [takeEvent_eq_next, if_pos ⟨ha, hl, hover h⟩, State.enterFast_eq]
    · show takeEvent s _ = _
      rw [takeEvent_eq_next, if_neg]
      rintro ⟨ha, hl, -⟩
      rcases hor with hor | hor
      · rw [ha] at hor; cases hor
      · exact hl hor
    · exact congrArg Host.Outcome.next (if_pos (hover h))
    · show takeEvent s _ = _
      rw [takeEvent_eq_next, if_neg (by simp [hunder h])]
    · exact congrArg Host.Outcome.next (if_neg (by simp [hunder h]))
  · refine (next_of_due h : exec .quietTimerExpiry s = _).trans ?_
    rw [FrontEnd.toMode_eq]
    rfl

/-! ## The hold timer's expiry (R28, R30) -/

theorem State.setSettler_lane_self (s : State) (l : Lane) (t : Settler) :
    (s.setSettler l t).lane l = { s.lane l with settler := t } := s.setLane_lane_self l _

theorem State.setSettler_lane_of_ne (s : State) {l m : Lane} (t : Settler) (h : m ≠ l) : (s.setSettler l t).lane m = s.lane m :=
  s.setLane_lane_of_ne _ h

theorem State.settleFrontEnd_lane (s before : State) (l : Lane) : (s.settleFrontEnd before).lane l = s.lane l := by
  rw [State.settleFrontEnd_frame]
  rfl

/-- A HELD lane released to MOVING is no reason for FAST, but it stops the quiet timer (R7, R8, R30). -/
theorem State.settleFrontEnd_released {s : State} {l : Lane} (hn : s.startUp.node = .run)
    (he : laneEnabled s.running l = true) (hheld : (s.lane l).settler.state = some .held) {t : Settler}
    (ht : t.state = some .moving) :
    ((s.setSettler l t).settleFrontEnd s).frontEnd = { s.frontEnd with quietTimer := .stopped } := by
  have hlane : ((s.setSettler l t).lane l).settler = t := by rw [State.setSettler_lane_self]
  have hquiet : (s.setSettler l t).quiet = false := State.quiet_eq_false (l := l) he (by rw [hlane]; simp [ht])
  have hleft : s.leftRest (s.setSettler l t) = false := by
    refine Bool.eq_false_iff.mpr fun h => ?_
    obtain ⟨m, hrest, hne⟩ := (State.leftRest_iff _ _).mp h
    by_cases hm : m = l
    · subst hm; simp [hheld] at hrest
    · exact hne (by rw [State.setSettler_lane_of_ne s t hm])
  rw [State.settleFrontEnd_of_moved (l := l) (by simp [hlane, ht, hheld]) hleft,
    State.testQuiet_of_not_quiet (s := s.setSettler l t) hn hquiet]
  rfl

/-- Settles O21: the release of a lane, or the timer's stop while the lane waits for the supply. -/
theorem holdTimerExpiryReleasesLane : Obligations.HoldTimerExpiryReleasesLane := by
  intro s l
  refine ⟨next_of_not_due, fun hn he hd hheld => ?_⟩
  refine ⟨_, next_of_due hd, ?_, ?_, fun m hm => ?_, ?_, ?_⟩
  · rw [State.settleFrontEnd_lane, State.setSettler_lane_self]
    cases hw : (s.lane l).settler.supplyWait <;> simp [Settler.holdExpired, hheld, hw]
  · rw [State.settleFrontEnd_lane, State.setSettler_lane_self]
  · rw [State.settleFrontEnd_lane, State.setSettler_lane_of_ne s _ hm]
  · cases hw : (s.lane l).settler.supplyWait with
    | false => exact State.settleFrontEnd_released hn he hheld (by simp [Settler.holdExpired, hheld, hw])
    | true =>
      rw [State.settleFrontEnd_of_same]
      · rfl
      · intro m
        by_cases hm : m = l
        · subst hm
          rw [State.setSettler_lane_self]
          simp [Settler.holdExpired, hheld, hw]
        · rw [State.setSettler_lane_of_ne s _ hm]
  · rw [State.settleFrontEnd_frame]
    rfl

/-! ## The beginning of supply hold (R15) -/

theorem State.enterFast_testQuiet (s : State) : s.testQuiet.enterFast = s.enterFast := by
  rw [State.testQuiet_eq]
  simp only [State.enterFast_eq]

theorem State.enterFast_enterFast (s : State) : s.enterFast.enterFast = s.enterFast := by
  simp only [State.enterFast_eq, if_true]

/-- FAST mode and a stopped quiet timer leave no trace of a change of lane states that went before. -/
theorem State.enterFast_settleFrontEnd (s before : State) : (s.settleFrontEnd before).enterFast = s.enterFast := by
  unfold State.settleFrontEnd
  split
  · rfl
  · split
    · rw [State.enterFast_testQuiet, State.enterFast_enterFast]
    · exact s.enterFast_testQuiet

/-- The front end at the beginning of supply hold (R15). -/
def FrontEnd.held (f : FrontEnd) : FrontEnd :=
  { f with
    supplyHold := true, goodRun := 0, conversionsDue := [], mode := .fast, quietTimer := .stopped
    roundTimer := if f.mode = .fast then f.roundTimer else .running (20000 - f.sinceRound) }

theorem State.beginSupplyHold_of_run {s : State} (hn : s.startUp.node = .run) : s.beginSupplyHold =
    { s with frontEnd := s.frontEnd.held, lanes := (s.mapSettlers Settler.supplyHeld).lanes } := by
  unfold State.beginSupplyHold
  rw [hn]
  dsimp only
  rw [State.enterFast_settleFrontEnd, State.enterFast_eq]
  rfl

theorem State.beginSupplyHold_of_configuring {s : State} (hn : s.startUp.node = .configuring) : s.beginSupplyHold =
    State.failOperation { s with frontEnd := s.frontEnd.held } := by
  unfold State.beginSupplyHold
  rw [hn]
  dsimp only
  rw [State.enterFast_eq]
  rfl

/-- The end of an operation is a matter of the port and of the start-up block (R15). -/
theorem State.failOperation_frame (s : State) :
    s.failOperation.frontEnd = s.frontEnd ∧ s.failOperation =
      { s with frontEnd := s.failOperation.frontEnd, port := s.failOperation.port, startUp := s.failOperation.startUp } := by
  unfold State.failOperation State.failCapture
  split
  · exact ⟨rfl, rfl⟩
  · split <;> exact ⟨rfl, rfl⟩
  · split <;> exact ⟨rfl, rfl⟩
  · exact ⟨rfl, rfl⟩

theorem Settler.supplyHeld_of_rest {t : Settler} (h : t.state = some .fault) : t.supplyHeld = t := by
  unfold Settler.supplyHeld; rw [h]

theorem Settler.supplyHeld_eq {t : Settler} (hf : t.state ≠ some .fault) (hn : t.state ≠ none) :
    t.supplyHeld = if t.state = some .held then { t with supplyWait := true }
      else { t with
        state := some .held, window := [], settleCounter := 0, motionRun := 0, holdTimer := .stopped, supplyWait := true } := by
  unfold Settler.supplyHeld
  rcases h : t.state with _ | st
  · exact absurd h hn
  · cases st with
    | fault => exact absurd h hf
    | moving | settling | stable | held => rfl

/-- A lane of which a rule changed the settler or nothing has changed in its settler alone. -/
theorem LaneUnit.settler_only {u v : LaneUnit} {p : Prop} [Decidable p] {x : Settler}
    (h : u = if p then { v with settler := x } else v) : u = { v with settler := u.settler } := by
  subst h
  split <;> rfl

/-- Settles O18: the front end, the lanes in RUN, the port and the STORE in CONFIGURING. -/
theorem supplyHoldBegins : Obligations.SupplyHoldBegins := by
  intro s hd
  refine ⟨fun hh => ?_, exec_dipFilterExpiry_in_hold hd, fun hh hstart => ?_⟩
  · show takeEvent s _ = _
    rw [takeEvent_eq_next, if_neg (by simp [State.mayStart, hh])]
  have hfront : (s.dipExpired s.finalSample).beginSupplyHold.frontEnd = (s.dipExpired s.finalSample).frontEnd.held := by
    cases hn : s.startUp.node with
    | starting => exact absurd hn hstart
    | configuring => rw [State.beginSupplyHold_of_configuring (s := s.dipExpired s.finalSample) hn]; exact (State.failOperation_frame _).1
    | run => rw [State.beginSupplyHold_of_run (s := s.dipExpired s.finalSample) hn]
  refine ⟨_, exec_dipFilterExpiry hd hh, ?_, fun l => ?_, fun hn => ?_, fun hn => ?_⟩
  · rw [hfront]; rfl
  · rw [hfront]; exact s.finalSample_iff l
  · rw [State.beginSupplyHold_of_run (s := s.dipExpired s.finalSample) hn]
    have hlane : ∀ l, ((s.dipExpired s.finalSample).mapSettlers Settler.supplyHeld).lane l = if laneEnabled s.running l = true then
        { s.lane l with settler := (s.lane l).settler.supplyHeld } else s.lane l :=
      fun l => State.mapSettlers_lane (s.dipExpired s.finalSample) _ l
    refine ⟨fun l he hf hnone => ?_, fun l hor => ?_, fun l => ?_, rfl⟩
    · refine (congrArg LaneUnit.settler ((hlane l).trans (if_pos he))).trans ?_
      exact Settler.supplyHeld_eq hf hnone
    · refine (hlane l).trans ?_
      split
      · rename_i he
        rw [Settler.supplyHeld_of_rest (hor.resolve_left (by simp [he]))]
      · rfl
    · exact LaneUnit.settler_only (hlane l)
  · rw [State.beginSupplyHold_of_configuring (s := s.dipExpired s.finalSample) hn]
    refine ⟨fun hop => ?_, fun c hop hc => ?_, fun hop hphase => ?_, fun hop hphase => ?_, (State.failOperation_frame _).2⟩
    · simp [State.failOperation, State.dipExpired, hop]
    · rcases hop with hop | hop <;>
        simp [State.failOperation, State.dipExpired, hop, State.failCapture, hc, State.endCapture, State.setResult]
    · simp [State.failOperation, State.dipExpired, hop, State.failStore, State.stoppedStore, hphase, State.setResult]
    · simp [State.failOperation, State.dipExpired, hop, State.failStore, State.stoppedStore, hphase, State.setResult]

end Sys2Proof.Machine
end

section
/-! The lane settler (chapter 2): what a sample does to it in each of its states. -/

namespace Sys2Proof.Machine

open Sys2Proof.Config

/-! ## The window (R21) -/

theorem windowMax_spec {w : List Int} (h : w ≠ []) : windowMax w ∈ w ∧ ∀ x ∈ w, x ≤ windowMax w := by
  cases w with
  | nil => exact absurd rfl h
  | cons x xs => exact List.max?_eq_some_iff.mp (List.max?_cons' (x := x) (xs := xs))

theorem windowMin_spec {w : List Int} (h : w ≠ []) : windowMin w ∈ w ∧ ∀ x ∈ w, windowMin w ≤ x := by
  cases w with
  | nil => exact absurd rfl h
  | cons x xs => exact List.min?_eq_some_iff.mp (List.min?_cons' (x := x) (xs := xs))

/-- A window is narrow when it is full and no two of its samples differ by more than the band (R21). -/
theorem narrow_iff (band : Nat) (w : List Int) : narrow band w = true ↔ Close band w := by
  unfold narrow Close
  rw [Bool.and_eq_true, decide_eq_true_eq, decide_eq_true_eq]
  refine and_congr_right fun hlen => ?_
  have hne : w ≠ [] := fun h => by rw [h] at hlen; cases hlen
  obtain ⟨hmax, hle⟩ := windowMax_spec hne
  obtain ⟨hmin, hge⟩ := windowMin_spec hne
  unfold spread
  constructor
  · intro h x hx y hy
    have := hle x hx
    have := hge y hy
    omega
  · exact fun h => h _ hmax _ hmin

/-! ## A sample in each state (R20 to R24, R31 to R33) -/

/-- A third sample in a row at or beyond an end of the range leads to FAULT from every state but FAULT (R32). -/
theorem Settler.take_third {lr : LaneRecord} {t : Settler} {st : LaneState} (hs : t.state = some st) (hst : st ≠ .fault)
    (h : t.outOfRangeRun = 2) : t.take lr .beyond = t.enterFault := by
  unfold Settler.take
  rw [hs]
  have hrun : (t.countRange .beyond).outOfRangeRun = 3 := by simp [Settler.countRange, h]
  cases st with
  | fault => exact absurd rfl hst
  | moving | settling | stable | held => exact if_pos hrun

theorem Settler.take_grams {lr : LaneRecord} {t : Settler} (g : Int) :
    (t.state = some .moving → t.take lr (.grams g) = (t.countRange (.grams g)).whileMoving lr.band (.grams g)) ∧
    (t.state = some .settling → t.take lr (.grams g) = (t.countRange (.grams g)).whileSettling lr.band (.grams g)) ∧
    (t.state = some .stable → t.take lr (.grams g) = (t.countRange (.grams g)).whileStable lr.motion (.grams g)) ∧
    (t.state = some .held → t.take lr (.grams g) = t.countRange (.grams g)) := by
  unfold Settler.take
  have hrun : ¬ (t.countRange (.grams g)).outOfRangeRun = 3 := by simp [Settler.countRange]
  refine ⟨fun h => ?_, fun h => ?_, fun h => ?_, fun h => ?_⟩ <;> rw [h] <;> exact if_neg hrun

theorem Settler.take_beyond {lr : LaneRecord} {t : Settler} (h2 : t.outOfRangeRun < 2) :
    (t.state = some .moving → t.take lr .beyond = t.countRange .beyond) ∧
    (t.state = some .settling → t.take lr .beyond = (t.countRange .beyond).whileSettling lr.band .beyond) ∧
    (t.state = some .stable → t.take lr .beyond = (t.countRange .beyond).countMotion true) ∧
    (t.state = some .held → t.take lr .beyond = t.countRange .beyond) := by
  unfold Settler.take
  have hrun : ¬ (t.countRange .beyond).outOfRangeRun = 3 := by simp only [Settler.countRange]; omega
  refine ⟨fun h => ?_, fun h => ?_, fun h => ?_, fun h => ?_⟩ <;> rw [h] <;> exact if_neg hrun

theorem Settler.take_in_fault {lr : LaneRecord} {t : Settler} (h : t.state = some .fault) (x : Reading) :
    t.take lr x = t.recover x := by
  unfold Settler.take
  rw [h]

/-- Settles O24: the table, state by state. -/
theorem settlerSampleTable : Obligations.SettlerSampleTable := by
  intro lr t g
  obtain ⟨hmoving, hsettling, hstable, hheld⟩ := Settler.take_grams (lr := lr) (t := t) g
  have hbeyond := Settler.take_beyond (lr := lr) (t := t)
  refine ⟨fun h => ⟨fun hc => ?_, fun hc => ?_⟩, fun h => ⟨fun hc => ?_, fun hc => ?_⟩,
    fun h => ⟨fun hm => ?_, fun hm h0 => ?_, fun hm h1 => ?_, fun h2 h0 => ?_, fun h2 h1 => ?_⟩,
    fun h => ⟨hheld h, fun h2 => (hbeyond h2).2.2.2 h⟩, fun h h2 => (hbeyond h2).1 h, fun h h2 => (hbeyond h2).2.1 h,
    fun h h2 => ?_, fun h => ⟨?_, fun h15 => ?_, fun h15 => ?_⟩⟩
  · rw [← narrow_iff] at hc
    rw [hmoving h, ← pushSample_eq_joined] at *
    exact if_pos hc
  · rw [← narrow_iff] at hc
    rw [hmoving h, ← pushSample_eq_joined] at *
    exact if_neg hc
  · rw [← narrow_iff] at hc
    rw [hsettling h, ← pushSample_eq_joined] at *
    exact if_pos hc
  · rw [← narrow_iff] at hc
    rw [hsettling h, ← pushSample_eq_joined] at *
    exact if_neg hc
  · rw [hstable h, ← pushSample_eq_joined]
    simp [Settler.whileStable, Settler.countMotion, Settler.countRange, Nat.not_lt.mpr hm]
  · rw [hstable h, ← pushSample_eq_joined]
    simp [Settler.whileStable, Settler.countMotion, Settler.countRange, hm, h0]
  · rw [hstable h, ← pushSample_eq_joined]
    simp [Settler.whileStable, Settler.countMotion, Settler.countRange, hm, h1]
  · rw [(hbeyond h2).2.2.1 h]
    simp [Settler.countMotion, Settler.countRange, h0]
  · rw [(hbeyond h2).2.2.1 h]
    simp [Settler.countMotion, Settler.countRange, h1]
  · rcases h with h | h | h | h <;> exact Settler.take_third h (by simp) h2
  · exact Settler.take_in_fault h _
  · rw [Settler.take_in_fault h]
    exact if_neg (by omega)
  · rw [Settler.take_in_fault h]
    exact if_pos (by omega)

end Sys2Proof.Machine
end

section
/-! The alert unit and the ageing of the carrier table (sections 5.3 to 5.6 and chapter 6): evaluations, the lead test, and the
expiries of the slots', lanes' and carriers' timers. -/

namespace Sys2Proof.Machine

open Sys2Proof.Config

/-! ## The carrier entries of a station (R83, R84) -/

theorem State.mem_slotsWhere (s : State) (station : Nat) (holds : CarrierEntry → Bool) (i : Slot) :
    i ∈ s.slotsWhere station holds ↔ ∃ (p : Fin 32) (e : CarrierEntry),
      s.carriers[p] = some e ∧ e.station = station ∧ holds e = true ∧ e.slot = i := by
  unfold State.slotsWhere
  simp only [List.mem_map, List.mem_filter, State.mem_carrierEntries, Bool.and_eq_true, decide_eq_true_eq]
  constructor
  · rintro ⟨e, ⟨⟨p, hp⟩, hst, hh⟩, hs⟩
    exact ⟨p, e, hp, hst, hh, hs⟩
  · rintro ⟨p, e, hp, hst, hh, hs⟩
    exact ⟨e, ⟨⟨p, hp⟩, hst, hh⟩, hs⟩

theorem CarrierEntry.dueStale_iff (e : CarrierEntry) : e.dueStale = true ↔ e.band = .fresh ∧ 35000000 ≤ e.age := by
  unfold CarrierEntry.dueStale
  rw [Bool.and_eq_true, decide_eq_true_eq, decide_eq_true_eq]
  rfl

theorem CarrierEntry.dueRemoval_iff (e : CarrierEntry) : e.dueRemoval = true ↔ 300000000 ≤ e.age := by
  unfold CarrierEntry.dueRemoval
  rw [decide_eq_true_eq]
  rfl

/-- Settles O36: the entries that are due, and their slots. -/
theorem carrierEntriesAge : Obligations.CarrierEntriesAge := by
  intro s station
  refine ⟨⟨_, _, rfl, fun p => ?_, fun i => ?_⟩, ⟨_, _, rfl, fun p => ?_, fun i => ?_⟩⟩
  · refine (s.mapStation_get station _ p).trans ?_
    cases s.carriers[p] with
    | none => rfl
    | some e =>
      by_cases hst : e.station = station
      · by_cases hd : e.dueStale = true
        · simp [hst, hd, (CarrierEntry.dueStale_iff e).mp hd]
        · simp [hst, hd, mt (CarrierEntry.dueStale_iff e).mpr hd]
      · simp [hst]
  · rw [State.mem_slotsWhere]
    simp only [CarrierEntry.dueStale_iff, and_assoc]
  · refine (s.mapStation_get station _ p).trans ?_
    cases s.carriers[p] with
    | none => rfl
    | some e =>
      by_cases hst : e.station = station
      · by_cases hd : e.dueRemoval = true
        · simp [hst, hd, (CarrierEntry.dueRemoval_iff e).mp hd]
        · simp [hst, hd, mt (CarrierEntry.dueRemoval_iff e).mpr hd]
      · simp [hst]
  · rw [State.mem_slotsWhere]
    simp only [CarrierEntry.dueRemoval_iff]

/-! ## Lead and deferral (R100, R101) -/

theorem keyLower_iff (h1 n1 h2 n2 : Nat) : keyLower h1 n1 h2 n2 = true ↔ h1 < h2 ∨ h1 = h2 ∧ n1 < n2 := by
  simp [keyLower]

theorem State.leads_iff (s : State) (i : Slot) : s.leads i = true ↔ (s.slot i).uncertain = false ∧
    ∀ (p : Fin 32) (e : CarrierEntry), s.carriers[p] = some e → e.slot = i → e.band = .fresh → e.uncertain = false →
      (s.slot i).holding < e.holding ∨ (s.slot i).holding = e.holding ∧ s.running.station < e.station := by
  unfold State.leads State.entriesOf
  rw [Bool.and_eq_true, Bool.not_eq_true', List.all_eq_true]
  refine and_congr_right fun _ => ⟨fun h p e hp hs hb hu => ?_, fun h e he => ?_⟩
  · have := h e (List.mem_filter.mpr ⟨(s.mem_carrierEntries e).mpr ⟨p, hp⟩, by simp [hs]⟩)
    rw [hb, hu] at this
    exact (keyLower_iff _ _ _ _).mp (by simpa using this)
  · obtain ⟨hmem, hs⟩ := List.mem_filter.mp he
    obtain ⟨p, hp⟩ := (s.mem_carrierEntries e).mp hmem
    have := h p e hp (by simpa using hs)
    cases hb : e.band with
    | stale => rfl
    | fresh =>
      cases hu : e.uncertain with
      | true => simp
      | false => simpa using (keyLower_iff _ _ _ _).mpr (this hb hu)

/-- Settles O40: the lead test and deferral, as conditions on the table and the lists. -/
theorem leadTestComparesKeys : Obligations.LeadTestComparesKeys := by
  intro s i
  refine ⟨s.leads_iff i, fun hsound p e hp heq => ?_, ?_⟩
  · obtain ⟨-, -, hown⟩ := hsound.peers p e hp
    exact hown (Prod.mk.inj heq).2.symm
  · simp [State.deferred, or_assoc]

/-! ## A change of alert items (R97 to R99, R113) -/

theorem State.changeAlert_slot_self (s : State) (i : Slot) (u : SlotUnit) (request : Bool) :
    (s.changeAlert i u request).slot i = u := by
  unfold State.changeAlert
  dsimp only
  split <;> split <;> exact s.setSlot_slot_self i u

theorem State.changeAlert_slot_of_ne (s : State) {i j : Slot} (u : SlotUnit) (request : Bool) (h : j ≠ i) :
    (s.changeAlert i u request).slot j = s.slot j := by
  unfold State.changeAlert
  dsimp only
  split <;> split <;> exact s.setSlot_slot_of_ne u h

theorem State.changeAlert_queue (s : State) (i : Slot) (u : SlotUnit) (request : Bool) :
    (s.changeAlert i u request).queue = if request = true then (s.place (.alert i)).queue else s.queue := by
  unfold State.changeAlert
  dsimp only
  split <;> split <;> rfl

/-- A change of alert items is one of the slot, of indicators and of the queue. -/
theorem State.changeAlert_frame (s : State) (i : Slot) (u : SlotUnit) (request : Bool) : s.changeAlert i u request = { s with
    slots := s.slots.set i.val u i.isLt, lanes := (s.changeAlert i u request).lanes
    queue := (s.changeAlert i u request).queue } := by
  unfold State.changeAlert
  dsimp only
  split <;> split <;> rfl

theorem State.changeAlert_lane (s : State) (i : Slot) (u : SlotUnit) (request : Bool) (l : Lane) :
    SameButIndicator (s.lane l) ((s.changeAlert i u request).lane l) := by
  unfold State.changeAlert
  dsimp only
  split <;> split
  · exact SameButIndicator.rfl' _
  · exact SameButIndicator.rfl' _
  · exact State.rederiveIndicators_lane (State.place (s.setSlot i u) (.alert i)) (lanesOfSlot s.running i) l
  · exact State.rederiveIndicators_lane (s.setSlot i u) (lanesOfSlot s.running i) l

theorem State.changeAlert_same (s : State) (i : Slot) : s.changeAlert i (s.slot i) false = s := by
  unfold State.changeAlert
  rw [State.setSlot_self]
  simp

/-- An evaluation after settling-in is a change of the slot's alert items by the tables (R97). -/
theorem State.evaluate_eq {s : State} (h : s.settlingIn = .ended) (i : Slot) {u : SlotUnit} {request : Bool}
    (he : evaluation (slotOf s.running i) (s.combined i) (s.deferred i) (s.leads i) (s.slot i) = (u, request)) :
    s.evaluate i = s.changeAlert i u request := by
  unfold State.evaluate
  rw [if_pos h, he]

theorem SlotUnit.toldAisle_iff (u : SlotUnit) : u.toldAisle = true ↔ u.lastSent ≠ .none := by simp [SlotUnit.toldAisle]

/-- A slot's timers are STOPPED where its alert state does not own them. -/
theorem SlotUnit.timed.stopped {u : SlotUnit} (h : u.timed) : (u.alert ≠ .following → u.takeoverTimer = .stopped) ∧
    (u.alert ≠ .raised → u.repeatTimer = .stopped) := by
  have stopped : ∀ {timer : Timer} {p : Prop}, (timer.isRunning = true ↔ p) → ¬ p → timer = .stopped := by
    intro timer p hiff hnot
    cases timer with
    | stopped => rfl
    | running d => exact absurd (hiff.mp rfl) hnot
  exact ⟨stopped h.takeover, stopped h.repeating⟩

/-- The short side of the tables, in a NORMAL slot at its reorder point or below, or in a DEFERRED one (R99). -/
theorem evaluation_short {sr : SlotRecord} {c : Nat} {u : SlotUnit} (deferred leads : Bool)
    (hlow : c < sr.reorderPoint + sr.hysteresis) (h : (u.alert = .normal ∧ c ≤ sr.reorderPoint) ∨ u.alert = .deferred) :
    evaluation sr c deferred leads u =
      if deferred then ({ u with alert := .deferred }, false)
      else if leads then (u.toRaised, true) else (u.toFollowing, false) := by
  unfold evaluation
  rw [if_neg (by omega)]
  rcases h with ⟨ha, hc⟩ | ha
  · rw [if_neg (by omega)]
    unfold shortSide
    rw [ha]
  · rw [if_neg (by simp [ha])]
    unfold shortSide
    rw [ha]

theorem evaluation_keeps {sr : SlotRecord} {c : Nat} {u : SlotUnit} (deferred leads : Bool)
    (hlow : c < sr.reorderPoint + sr.hysteresis)
    (h : u.alert = .normal ∧ sr.reorderPoint < c ∨ u.alert = .muted ∨ u.alert = .raised ∨ u.alert = .following ∧ leads = false) :
    evaluation sr c deferred leads u = (u, false) := by
  unfold evaluation
  rw [if_neg (by omega)]
  rcases h with h | h | h | ⟨h, hleads⟩
  · exact if_pos h
  · rw [if_neg (by simp [h])]
    unfold shortSide
    rw [h]
  · rw [if_neg (by simp [h])]
    unfold shortSide
    rw [h]
  · rw [if_neg (by simp [h])]
    unfold shortSide
    rw [h, hleads]
    rfl

theorem evaluation_following {sr : SlotRecord} {c : Nat} {u : SlotUnit} (deferred : Bool) {leads : Bool}
    (hlow : c < sr.reorderPoint + sr.hysteresis) (h : u.alert = .following) (hleads : leads = true) :
    evaluation sr c deferred leads u = (u.toRaised, true) := by
  unfold evaluation
  rw [if_neg (by omega), if_neg (by simp [h])]
  unfold shortSide
  rw [h, hleads]
  rfl

/-- Settles O39: the tables row by row; each row is a change of the slot's alert items. -/
theorem evaluationFollowsTheTables : Obligations.EvaluationFollowsTheTables := by
  intro s i htimed
  obtain ⟨htakeover, hrepeat⟩ := (htimed i).stopped
  refine ⟨fun h => if_neg h, fun hended => ?_, fun htold => ?_, fun owed => ?_⟩
  · have hframe := (s.evaluate_evaluated i)
    have hothers : (∀ j, j ≠ i → (s.evaluate i).slot j = s.slot j) ∧
        s.evaluate i = { s with
          slots := (s.evaluate i).slots, lanes := (s.evaluate i).lanes, queue := (s.evaluate i).queue } := by
      rw [State.evaluate_eq hended i rfl]
      exact ⟨fun j hj => State.changeAlert_slot_of_ne s _ _ hj, by rw [State.changeAlert_frame]⟩
    have hkeeps : s.combined i < (slotOf s.running i).reorderPoint + (slotOf s.running i).hysteresis ∧
        ((s.slot i).alert = .normal ∧ (slotOf s.running i).reorderPoint < s.combined i ∨ (s.slot i).alert = .muted ∨
          (s.slot i).alert = .raised ∨ (s.slot i).alert = .following ∧ s.leads i = false) → s.evaluate i = s := fun h => by
      rw [State.evaluate_eq hended i (evaluation_keeps (s.deferred i) (s.leads i) h.1 h.2), State.changeAlert_same]
    refine ⟨s.evaluate i, _, _, _, _, rfl, rfl, rfl, rfl, rfl, fun hc => ?_, fun hc ha hrp => hkeeps ⟨hc, .inl ⟨ha, hrp⟩⟩,
      fun hc ha => hkeeps ⟨hc, .inr (ha.imp_right .inl)⟩, fun hc ha hl => hkeeps ⟨hc, .inr (.inr (.inr ⟨ha, hl⟩))⟩,
      fun hc ha hl => ?_, fun hc hshort => ?_, hothers.1, hframe.lanes, hothers.2⟩
    · have he : evaluation (slotOf s.running i) (s.combined i) (s.deferred i) (s.leads i) (s.slot i) =
          ((s.slot i).toNormal, (s.slot i).toldAisle) := if_pos hc
      rw [State.evaluate_eq hended i he, State.changeAlert_slot_self, State.changeAlert_queue]
      exact ⟨rfl, fun h => if_pos ((SlotUnit.toldAisle_iff _).mpr h),
        fun h => if_neg (fun ht => (SlotUnit.toldAisle_iff _).mp ht h)⟩
    · have he : evaluation (slotOf s.running i) (s.combined i) (s.deferred i) (s.leads i) (s.slot i) =
          ((s.slot i).toRaised, true) := evaluation_following (s.deferred i) hc ha hl
      rw [State.evaluate_eq hended i he, State.changeAlert_slot_self, State.changeAlert_queue]
      exact ⟨rfl, rfl⟩
    · have he := evaluation_short (s.deferred i) (s.leads i) hc hshort
      have hstate : (s.slot i).alert ≠ .following ∧ (s.slot i).alert ≠ .raised := by
        rcases hshort with ⟨h, -⟩ | h <;> simp [h]
      have htake := htakeover hstate.1
      have hrep := hrepeat hstate.2
      refine ⟨fun hd => ?_, fun hd hl => ?_, fun hd hl => ?_⟩
      · rw [if_pos hd] at he
        rw [State.evaluate_eq hended i he, State.changeAlert_slot_self, State.changeAlert_queue]
        exact ⟨rfl, rfl⟩
      · rw [if_neg (by simp [hd]), if_pos hl] at he
        rw [State.evaluate_eq hended i he, State.changeAlert_slot_self, State.changeAlert_queue]
        exact ⟨by rw [htake]; rfl, rfl⟩
      · rw [if_neg (by simp [hd]), if_neg (by simp [hl])] at he
        rw [State.evaluate_eq hended i he, State.changeAlert_slot_self, State.changeAlert_queue]
        exact ⟨by rw [hrep]; rfl, rfl⟩
  · refine (State.changeAlert_queue _ _ _ _).trans (if_pos ?_)
    exact (SlotUnit.toldAisle_iff _).mpr htold
  · unfold State.evaluateAll
    refine congrArg (fun is => List.foldl State.evaluate s is) ?_
    refine List.filter_congr fun j _ => ?_
    exact List.contains_eq_mem j owed

/-! ## The expiries (R90 to R92, R102, R103, R107, R111, R145) -/

theorem exec_settlingInExpiry_not {s : State} (h : s.settlingIn ≠ .running 0) : exec .settlingInExpiry s = .next s := by
  refine congrArg Host.Outcome.next ?_
  dsimp only
  split
  · rename_i hr; exact absurd hr h
  · rfl

theorem exec_settlingInExpiry {s : State} (h : s.settlingIn = .running 0) : exec .settlingInExpiry s =
    .next (State.evaluateAll { s with settlingIn := .ended } (articleSlots s.running)) := by
  refine congrArg Host.Outcome.next ?_
  dsimp only
  rw [h]
  rfl

/-- Settles O41: each timer at its expiry and before it. -/
theorem slotAndLaneTimersExpire : Obligations.SlotAndLaneTimersExpire := by
  intro s i l
  refine ⟨exec_settlingInExpiry_not, exec_settlingInExpiry, next_of_not_due, fun h => ⟨_, next_of_due h, ?_⟩,
    next_of_not_due, fun h => ⟨_, next_of_due h, ?_⟩, next_of_not_due, fun h => ⟨_, next_of_due h, ?_⟩,
    next_of_not_due, fun h => ⟨s.endMute i, next_of_due h, ?_⟩, next_of_not_due, fun h => ⟨_, next_of_due h, ?_⟩,
    next_of_not_due, next_of_due⟩
  · have hslot := s.setSlot_slot_self i { s.slot i with refreshTimer := .running (sec 120) }
    unfold State.placeStock
    split
    · refine ⟨hslot, ?_⟩
      exact congrArg (fun u => { s with slots := s.slots.set i.val u i.isLt, queue := (s.place (.stock i)).queue }) hslot.symm
    · refine ⟨hslot, ?_⟩
      exact congrArg (fun u => { s with slots := s.slots.set i.val u i.isLt }) hslot.symm
  · have hslot := s.setSlot_slot_self i { s.slot i with repeatTimer := .running (sec 60) }
    refine ⟨hslot, ?_⟩
    exact congrArg (fun u => { s with slots := s.slots.set i.val u i.isLt, queue := (s.place (.alert i)).queue }) hslot.symm
  · have hslot := s.changeAlert_slot_self i (s.slot i).toRaised true
    refine ⟨hslot, s.changeAlert_lane i _ true, ?_⟩
    rw [hslot]
    exact (s.changeAlert_frame i _ true).trans (by rw [s.changeAlert_queue i _ true, if_pos rfl])
  · have hslot := s.changeAlert_slot_self i (s.slot i).toNormal (s.slot i).toldAisle
    refine ⟨hslot, s.changeAlert_lane i _ _, ?_⟩
    have hqueue : (s.endMute i).queue = if (s.slot i).lastSent = .none then s.queue else (s.place (.alert i)).queue := by
      refine (s.changeAlert_queue i _ _).trans ?_
      by_cases hlast : (s.slot i).lastSent = .none <;> simp [SlotUnit.toldAisle, hlast]
    rw [← hqueue, show (s.endMute i).slot i = _ from hslot]
    exact s.changeAlert_frame i _ _
  · have hlane := s.setLane_lane_self l { s.lane l with notice := { (s.lane l).notice with timer := .running (sec 60) } }
    refine ⟨hlane, ?_⟩
    exact congrArg (fun u => { s with lanes := s.lanes.set l.idx.val u l.idx.isLt, queue := (s.place (.notice l)).queue })
      hlane.symm

end Sys2Proof.Machine
end

section
/-! Receptions (section 8.2): the state that the dispatch works on, and what the receptions of SHOCK, NOTICE, ALERT and HUSH
do on it. -/

namespace Sys2Proof.Machine

open Sys2Proof.Config

/-! ## The dispatch of a delivered frame (R83, R123, R137) -/

/-- The state that the owner of a delivered frame works on: the link as the reception leaves it, the sender's carrier entries
refreshed (R83, R137). -/
def State.delivered (s : State) (station : Nat) (link : Link) : State :=
  (State.refreshStation { s with link := link } station).1

/-- The slots that the refresh of a sender's entries owes an evaluation (R83). -/
def State.owedBy (s : State) (station : Nat) : List Slot := s.slotsWhere station fun e => decide (e.band = .stale)

theorem State.delivered_refreshed (s : State) (station : Nat) (link : Link) :
    Refreshed s station (s.delivered station link).carriers := by
  intro p
  refine (State.mapStation_get { s with link := link } station _ p).trans ?_
  cases s.carriers[p] with
  | none => rfl
  | some e => by_cases hst : e.station = station <;> simp [hst]

theorem State.delivered_frame (s : State) (station : Nat) (link : Link) :
    s.delivered station link = { s with carriers := (s.delivered station link).carriers, link := link } := rfl

theorem State.mem_owedBy (s : State) (station : Nat) (i : Slot) : i ∈ s.owedBy station ↔ OwedByRefresh s station i := by
  unfold State.owedBy OwedByRefresh
  rw [State.mem_slotsWhere]
  simp only [decide_eq_true_eq]

theorem State.dispatch_delivered (s : State) (station : Byte) (link : Link) (owner : State → State × List Slot) :
    State.dispatch { s with link := link } station owner = State.evaluateAll (owner (s.delivered station.toNat link)).1
      (s.owedBy station.toNat ++ (owner (s.delivered station.toNat link)).2) := rfl

theorem State.receive_delivery {s : State} {f : Frame} {link : Link} (h : OwnDelivery s f link) (dispatch : State → State) :
    s.receive f dispatch = dispatch { s with link := link } := by
  cases h with
  | after hoff hfree hdue hown =>
    rw [State.receive, if_neg hoff, if_pos hown, if_neg (by simp [hfree]), if_pos hdue]
  | before g hoff hflight hframe hnot hwhole hown =>
    rw [State.receive, if_neg hoff, if_pos hown, if_pos (by simp [hflight, Flight.isOwn, Flight.whole, hframe, hnot, hwhole]),
      hflight]
    rfl

theorem State.receive_assembled {s : State} {f : Frame} (h : Assembles s (frameChars f)) (hpeer : f.station ≠ s.ownStation)
    (dispatch : State → State) : s.receive f dispatch = dispatch { s with link := s.link.received f } := by
  rw [State.receive, if_neg h.receives, if_neg hpeer, if_pos ((Link.assembles_iff s _).mpr h)]

/-- The link after a frame that is delivered: the node's own frame, or another station's (R121, R123). -/
inductive Delivers (s : State) (f : Frame) : Link → Prop where
  | own (link : Link) : OwnDelivery s f link → Delivers s f link
  | assembled : Assembles s (frameChars f) → f.station ≠ s.ownStation → Delivers s f (s.link.received f)

theorem PeerFrame.delivers {s : State} {f : Frame} (h : PeerFrame s f) : Delivers s f (s.link.received f) :=
  .assembled h.assembles h.peer

theorem OutsideFrame.delivers {s : State} {f : Frame} (h : OutsideFrame s f) : Delivers s f (s.link.received f) :=
  .assembled h.assembles h.peer

theorem OwnDelivery.station {s : State} {f : Frame} {link : Link} (h : OwnDelivery s f link) : f.station = s.ownStation := by
  cases h with
  | after _ _ _ h => exact h
  | before _ _ _ _ _ _ h => exact h

theorem State.receive_delivers {s : State} {f : Frame} {link : Link} (h : Delivers s f link) (dispatch : State → State) :
    s.receive f dispatch = dispatch { s with link := link } := by
  cases h with
  | own _ h => exact State.receive_delivery h dispatch
  | assembled h hpeer => exact State.receive_assembled h hpeer dispatch

/-- What a reception makes of the owner's work: the evaluations owed by the refresh and by the owner (R137). -/
theorem next_of_delivers {s : State} {f : Frame} {link : Link} (h : Delivers s f link) {owner : State → State × List Slot}
    {r : State} {owed : List Slot} (howner : owner (s.delivered f.station.toNat link) = (r, owed)) :
    (Host.Outcome.next (s.receive f fun s => s.dispatch f.station owner) : Result) =
      .next (r.evaluateAll (s.owedBy f.station.toNat ++ owed)) := by
  rw [State.receive_delivers h, State.dispatch_delivered, howner]

theorem State.mem_owedBy_append (s : State) (station : Nat) (owed : List Slot) (i : Slot) :
    i ∈ s.owedBy station ++ owed ↔ OwedByRefresh s station i ∨ i ∈ owed := by
  rw [List.mem_append, State.mem_owedBy]

theorem State.mem_owedBy_nil (s : State) (station : Nat) (i : Slot) :
    i ∈ s.owedBy station ++ [] ↔ OwedByRefresh s station i := by
  rw [List.append_nil, State.mem_owedBy]

/-- A delivered frame whose owner does nothing is a refresh and no more. -/
theorem refreshOnly_of_idle {s : State} {f : Frame} {link : Link} (h : Delivers s f link)
    {owner : State → State × List Slot}
    (hidle : owner (s.delivered f.station.toNat link) = (s.delivered f.station.toNat link, [])) :
    RefreshOnly s f link (.next (s.receive f fun s => s.dispatch f.station owner)) :=
  ⟨_, _, s.delivered_refreshed _ link, s.mem_owedBy_nil _, next_of_delivers h hidle⟩

/-! ## SHOCK and NOTICE (R7, R27, R112) -/

theorem State.takeShock_idle {s : State} {station : Byte} (h : station.toNat ∉ s.running.neighbours) :
    s.takeShock station = (s, []) := if_neg (by simpa using h)

theorem State.takeShock_neighbour {s : State} {station : Byte} (h : station.toNat ∈ s.running.neighbours) :
    s.takeShock station = ((s.holdLanes 800000).enterFast, []) := if_pos (by simpa using h)

/-- Settles O38: the neighbour's hold, and the frames that only refresh. -/
theorem shockAndNoticeReceptions : Obligations.ShockAndNoticeReceptions := by
  intro s station lane article flags shock notice hshock hnotice
  subst hshock hnotice
  have hidle : ∀ link, Delivers s { station := station, payload := .shock } link → station.toNat ∉ s.running.neighbours →
      RefreshOnly s { station := station, payload := .shock } link (exec (.shockReception station) s) := fun link hd hn =>
    refreshOnly_of_idle hd (State.takeShock_idle (s := s.delivered station.toNat link) hn)
  have hnotice : ∀ link, Delivers s { station := station, payload := .notice lane article flags } link →
      RefreshOnly s { station := station, payload := .notice lane article flags } link
        (exec (.noticeReception station lane article flags) s) := fun link hd =>
    refreshOnly_of_idle (owner := fun s => (s, [])) hd rfl
  refine ⟨fun hframe hn => ?_, fun link hown => hidle link (.own link hown), fun link hown => hnotice link (.own link hown),
    fun hframe => hidle _ (hframe.elim PeerFrame.delivers OutsideFrame.delivers),
    fun hframe => hnotice _ (hframe.elim PeerFrame.delivers OutsideFrame.delivers)⟩
  have hd := hframe.elim PeerFrame.delivers OutsideFrame.delivers
  have hlane : ∀ l, ((s.delivered station.toNat (s.link.received { station := station, payload := .shock })).mapSettlers
      (Settler.timedHold 800000)).lane l = if laneEnabled s.running l = true then
        { s.lane l with settler := (s.lane l).settler.timedHold 800000 } else s.lane l := State.mapSettlers_lane _ _
  refine ⟨((s.delivered station.toNat (s.link.received { station := station, payload := .shock })).holdLanes 800000).enterFast,
    _, next_of_delivers hd (State.takeShock_neighbour hn), s.mem_owedBy_nil _, ?_⟩
  rw [State.holdLanes, State.enterFast_settleFrontEnd, State.enterFast_eq]
  refine ⟨rfl, rfl, rfl, fun l he hfree => ?_, fun l he hheld => ?_, fun l hor => ?_, fun l => ?_, s.delivered_refreshed _ _, rfl⟩
  · rw [← Settler.timedHold_of_free hfree]
    exact congrArg LaneUnit.settler ((hlane l).trans (if_pos he))
  · rw [← Settler.timedHold_of_held hheld]
    exact congrArg LaneUnit.settler ((hlane l).trans (if_pos he))
  · refine (hlane l).trans ?_
    split
    · rename_i he
      have hfault := hor.resolve_left (by rw [show laneEnabled s.running l = true from he]; simp)
      exact congrArg (fun t => { s.lane l with settler := t }) (Settler.timedHold_of_fault hfault)
    · rfl
  · exact LaneUnit.settler_only (hlane l)

/-! ## HUSH (R106, R107) -/

theorem State.takeHush_of_none {s : State} {article : Article} (minutes : Byte)
    (h : articleSlot s.running article.toNat = none) : s.takeHush article minutes = (s, []) := by
  unfold State.takeHush
  rw [h]

/-- What a HUSH does to the article slot of its article, by the slot's alert state (R106, R107). -/
theorem State.takeHush_of_some {s : State} {article : Article} (minutes : Byte) {i : Slot}
    (h : articleSlot s.running article.toNat = some i) :
    ((s.slot i).alert = .normal → s.takeHush article minutes = (s, [])) ∧
    ((s.slot i).alert = .muted → s.takeHush article minutes =
      if minutes = 0 then (s.endMute i, [i])
      else (s.changeAlert i { s.slot i with muteTimer := .running (min 240 minutes.toNat * 60000000) } false, [])) ∧
    ((s.slot i).alert = .raised ∨ (s.slot i).alert = .following ∨ (s.slot i).alert = .deferred →
      s.takeHush article minutes =
        if minutes = 0 then (s, [])
        else (s.changeAlert i ((s.slot i).toMuted (min 240 minutes.toNat * 60000000))
          (decide ((s.slot i).lastSent = .raised)), [])) := by
  have htime : Config.minutes (min 240 minutes.toNat) = min 240 minutes.toNat * 60000000 := by
    simp only [Config.minutes, sec]
    omega
  unfold State.takeHush
  rw [h, ← htime]
  refine ⟨fun ha => ?_, fun ha => ?_, fun ha => ?_⟩
  · dsimp only
    rw [ha]
  · dsimp only
    rw [ha]
  · rcases ha with ha | ha | ha <;> dsimp only <;> rw [ha]

theorem ite_toldAisle {α : Type} (u : SlotUnit) (x y : α) :
    (if u.toldAisle = true then x else y) = if u.lastSent = .none then y else x := by
  by_cases h : u.lastSent = .none <;> simp [SlotUnit.toldAisle, h]

theorem State.changeAlert_carriers (s : State) (i : Slot) (u : SlotUnit) (request : Bool) :
    (s.changeAlert i u request).carriers = s.carriers := by rw [State.changeAlert_frame]

theorem State.changeAlert_kept (s : State) (i : Slot) (u : SlotUnit) (request : Bool) : s.changeAlert i u request = { s with
    slots := (s.changeAlert i u request).slots, lanes := (s.changeAlert i u request).lanes
    queue := (s.changeAlert i u request).queue, carriers := (s.changeAlert i u request).carriers } := by
  conv =>
    lhs
    rw [State.changeAlert_frame]
  rw [State.changeAlert_carriers]
  rw [State.changeAlert_frame]

/-- Settles O43: the hush by the slot's alert state and its minutes. -/
theorem hushMutesShortSlots : Obligations.HushMutesShortSlots := by
  intro s station article minutes ha hpeer
  have hd : Delivers s { station := station, payload := .hush article minutes } _ := .assembled ha hpeer
  have hb := s.delivered_refreshed station.toNat (s.link.received { station := station, payload := .hush article minutes })
  cases hslot : articleSlot s.running article.toNat with
  | none =>
    refine ⟨_, _, next_of_delivers hd (State.takeHush_of_none minutes hslot), hb, fun j => ?_, fun _ => ⟨rfl, rfl⟩,
      fun _ h => (nomatch h), fun _ => rfl, rfl⟩
    rw [State.mem_owedBy_nil]
    simp
  | some i =>
    obtain ⟨hnormal, hmuted, hshort⟩ := State.takeHush_of_some
      (s := s.delivered station.toNat (s.link.received { station := station, payload := .hush article minutes })) minutes hslot
    have hnone : ¬ ((s.slot i).alert = .muted ∧ minutes = 0) → ∀ j, j ∈ s.owedBy station.toNat ++ [] ↔
        OwedByRefresh s station.toNat j ∨ some i = some j ∧ (s.slot j).alert = .muted ∧ minutes = 0 := by
      intro hno j
      rw [State.mem_owedBy_nil]
      refine ⟨.inl, fun h => h.resolve_right ?_⟩
      rintro ⟨hij, h⟩
      cases hij
      exact hno h
    by_cases hm : (s.slot i).alert = .muted
    · by_cases h0 : minutes = 0
      · refine ⟨_, _, next_of_delivers hd ((hmuted hm).trans (if_pos h0)), ?_, fun j => ?_, fun h => (nomatch h), fun j hj => ?_,
          fun l => State.changeAlert_lane _ i _ _ l, State.changeAlert_kept _ i _ _⟩
        · rw [State.endMute, State.changeAlert_carriers]
          exact hb
        · rw [State.mem_owedBy_append, List.mem_singleton]
          refine or_congr_right ⟨fun h => ⟨congrArg some h.symm, h ▸ hm, h0⟩, fun h => (Option.some.inj h.1).symm⟩
        · cases hj
          refine ⟨fun h => ?_, fun h => ?_, fun _ => ⟨fun h => absurd h0 h, fun _ => ⟨State.changeAlert_slot_self _ i _ _, ?_⟩⟩,
            fun j hj => State.changeAlert_slot_of_ne _ _ _ hj⟩
          · rw [hm] at h; cases h
          · rw [hm] at h; rcases h with h | h | h <;> cases h
          · refine (State.changeAlert_queue _ i _ _).trans ?_
            exact ite_toldAisle _ _ _
      · refine ⟨_, _, next_of_delivers hd ((hmuted hm).trans (if_neg h0)), ?_, hnone fun h => h0 h.2, fun h => (nomatch h),
          fun j hj => ?_, fun l => State.changeAlert_lane _ i _ _ l, State.changeAlert_kept _ i _ _⟩
        · rw [State.changeAlert_carriers]
          exact hb
        · cases hj
          refine ⟨fun h => ?_, fun h => ?_, fun _ => ⟨fun _ => ⟨State.changeAlert_slot_self _ i _ _, ?_⟩, fun h => absurd h h0⟩,
            fun j hj => State.changeAlert_slot_of_ne _ _ _ hj⟩
          · rw [hm] at h; cases h
          · rw [hm] at h; rcases h with h | h | h <;> cases h
          · exact State.changeAlert_queue _ i _ _
    · by_cases hn : (s.slot i).alert = .normal
      · refine ⟨_, _, next_of_delivers hd (hnormal hn), hb, hnone fun h => hm h.1, fun h => (nomatch h), fun j hj => ?_,
          fun _ => rfl, rfl⟩
        cases hj
        refine ⟨fun _ => ⟨rfl, rfl⟩, fun h => ?_, fun h => absurd h hm, fun _ _ => rfl⟩
        rw [hn] at h; rcases h with h | h | h <;> cases h
      · have hs : (s.slot i).alert = .raised ∨ (s.slot i).alert = .following ∨ (s.slot i).alert = .deferred := by
          cases h : (s.slot i).alert <;> simp [h] at hm hn ⊢
        by_cases h0 : minutes = 0
        · refine ⟨_, _, next_of_delivers hd ((hshort hs).trans (if_pos h0)), hb, hnone fun h => hm h.1, fun h => (nomatch h),
            fun j hj => ?_, fun _ => rfl, rfl⟩
          cases hj
          exact ⟨fun h => absurd h hn, fun _ => ⟨fun _ => ⟨rfl, rfl⟩, fun h => absurd h0 h⟩, fun h => absurd h hm, fun _ _ => rfl⟩
        · refine ⟨_, _, next_of_delivers hd ((hshort hs).trans (if_neg h0)), ?_, hnone fun h => hm h.1, fun h => (nomatch h),
            fun j hj => ?_, fun l => State.changeAlert_lane _ i _ _ l, State.changeAlert_kept _ i _ _⟩
          · rw [State.changeAlert_carriers]
            exact hb
          · cases hj
            refine ⟨fun h => absurd h hn, fun _ => ⟨fun h => absurd h h0, fun _ => ⟨State.changeAlert_slot_self _ i _ _, ?_⟩⟩,
              fun h => absurd h hm, fun j hj => State.changeAlert_slot_of_ne _ _ _ hj⟩
            refine (State.changeAlert_queue _ i _ _).trans ?_
            simp only [decide_eq_true_eq]
            rfl

/-! ## ALERT (R104, R105) -/

theorem State.alertApplies_congr {s t : State} (h : t.running = s.running) (station : Byte) (article : Article) (status : Byte) :
    t.alertApplies station article status = s.alertApplies station article status := by
  unfold State.alertApplies State.ownStation
  rw [h]

/-- A frame that does not apply: the node's own, of a sender outside 1 to 120, of no known status or of an article not carried
(R104). -/
theorem State.alertApplies_none {s : State} {station : Byte} {article : Article} {status : Byte}
    (h : station = s.ownStation ∨ ¬ (1 ≤ station.toNat ∧ station.toNat ≤ 120) ∨ articleSlot s.running article.toNat = none ∨
      status ≠ 1 ∧ status ≠ 2 ∧ status ≠ 3) : s.alertApplies station article status = none := by
  unfold State.alertApplies
  split
  · rfl
  · rename_i hno
    rw [not_or, Bool.not_eq_false, validStation_iff] at hno
    rcases h with h | h | h | ⟨h1, h2, h3⟩
    · exact absurd h hno.1
    · exact absurd hno.2 h
    · rw [h]
      cases alertStatusOf status <;> rfl
    · have : alertStatusOf status = none := by
        unfold alertStatusOf
        rw [if_neg h1, if_neg h2, if_neg h3]
      rw [this]

theorem State.alertApplies_some {s : State} {station : Byte} {article : Article} {status : Byte} {i : Slot} {st : AlertStatus}
    (hpeer : station ≠ s.ownStation) (hvalid : 1 ≤ station.toNat ∧ station.toNat ≤ 120)
    (hslot : articleSlot s.running article.toNat = some i) (hst : alertStatusOf status = some st) :
    s.alertApplies station article status = some (i, st) := by
  unfold State.alertApplies
  rw [if_neg (by rw [not_or, Bool.not_eq_false, validStation_iff]; exact ⟨hpeer, hvalid⟩), hst, hslot]

/-- What an ALERT_RECEPTION makes of the owner's work. -/
theorem next_of_alert {s : State} {station : Byte} {article : Article} {status : Byte} {combined holding reorder : BitVec 16}
    {link : Link} (h : Delivers s { station := station, payload := .alert article status combined holding reorder } link)
    {r : State} {owed : List Slot}
    (howner : State.takeAlert station article status holding (s.delivered station.toNat link) = (r, owed)) :
    exec (.alertReception station article status combined holding reorder) s =
      .next ((r.evaluateAll (s.owedBy station.toNat ++ owed)).afterAlert station article status) := by
  refine congrArg Host.Outcome.next ?_
  dsimp only
  rw [State.receive_delivers h, State.dispatch_delivered, howner]

theorem State.evaluateAll_running (s : State) (owed : List Slot) : (s.evaluateAll owed).running = s.running := by
  rw [(s.evaluateAll_evaluated owed).rest]

theorem State.evaluateAll_settlingIn (s : State) (owed : List Slot) : (s.evaluateAll owed).settlingIn = s.settlingIn := by
  rw [(s.evaluateAll_evaluated owed).rest]

/-- A slot that is FOLLOWING after an ALERT's evaluation starts its takeover timer again, once settling-in has ended (R105). -/
def State.takeoverAgain (r : State) (i : Slot) : State :=
  if r.settlingIn = .ended ∧ (r.slot i).alert = .following then
    r.setSlot i { r.slot i with takeoverTimer := .running 150000000 }
  else r

theorem State.takeoverAgain_spec (r : State) (i : Slot) :
    (r.takeoverAgain i).slot i = (if r.settlingIn = .ended ∧ (r.slot i).alert = .following then
      { r.slot i with takeoverTimer := .running 150000000 } else r.slot i) ∧
    (∀ j, j ≠ i → (r.takeoverAgain i).slot j = r.slot j) ∧
    r.takeoverAgain i = { r with slots := (r.takeoverAgain i).slots } := by
  unfold State.takeoverAgain
  split
  · exact ⟨r.setSlot_slot_self i _, fun j hj => r.setSlot_slot_of_ne _ hj, rfl⟩
  · exact ⟨rfl, fun _ _ => rfl, rfl⟩

section

variable {s : State} {station : Byte} {article : Article} {status : Byte} {combined holding reorder : BitVec 16} {link : Link}
  {i : Slot} {st : AlertStatus}

/-- A RAISED ALERT acts on the slot, and the evaluations are those that the refresh owes (R104). -/
theorem next_of_raisedAlert (h : Delivers s { station := station, payload := .alert article status combined holding reorder } link)
    (happly : s.alertApplies station article status = some (i, .raised)) :
    exec (.alertReception station article status combined holding reorder) s =
      .next (((s.delivered station.toNat link).takeRaised i station holding).evaluateAll (s.owedBy station.toNat ++ [])) := by
  have happly' : ∀ t : State, t.running = s.running → t.alertApplies station article status = some (i, .raised) := fun t ht =>
    (State.alertApplies_congr ht station article status).trans happly
  have howner : State.takeAlert station article status holding (s.delivered station.toNat link) =
      ((s.delivered station.toNat link).takeRaised i station holding, []) := by
    unfold State.takeAlert
    rw [happly' (s.delivered station.toNat link) rfl]
  refine (next_of_alert h howner).trans (congrArg Host.Outcome.next ?_)
  unfold State.afterAlert
  rw [happly' _ ((State.evaluateAll_running _ _).trans
    (State.takeRaised_keeps (own := none) (s.delivered station.toNat link) i station holding).running)]

/-- A CLEARED or MUTED ALERT has the slot evaluated, and a FOLLOWING slot then starts its takeover timer again (R105). -/
theorem next_of_endingAlert (h : Delivers s { station := station, payload := .alert article status combined holding reorder } link)
    (happly : s.alertApplies station article status = some (i, st)) (hst : st ≠ .raised) :
    exec (.alertReception station article status combined holding reorder) s =
      .next (((s.delivered station.toNat link).evaluateAll (s.owedBy station.toNat ++ [i])).takeoverAgain i) := by
  have happly' : ∀ t : State, t.running = s.running → t.alertApplies station article status = some (i, st) := fun t ht =>
    (State.alertApplies_congr ht station article status).trans happly
  have howner : State.takeAlert station article status holding (s.delivered station.toNat link) =
      (s.delivered station.toNat link, [i]) := by
    unfold State.takeAlert
    rw [happly' (s.delivered station.toNat link) rfl]
    cases st with
    | raised => exact absurd rfl hst
    | cleared | muted => rfl
  refine (next_of_alert h howner).trans (congrArg Host.Outcome.next ?_)
  unfold State.afterAlert
  rw [happly' _ (State.evaluateAll_running (s.delivered station.toNat link) _)]
  cases st with
  | raised => exact absurd rfl hst
  | cleared | muted => rfl

end

/-- A RAISED ALERT at a slot, by the slot's alert state: a RAISED one yields to a lower key, a FOLLOWING one starts its takeover
timer again (R104). -/
theorem State.takeRaised_spec (s : State) (i : Slot) (station : Byte) (holding : BitVec 16) :
    ((s.slot i).alert = .raised →
      (holding.toNat < (s.slot i).holding ∨ holding.toNat = (s.slot i).holding ∧ station.toNat < s.running.station →
        (s.takeRaised i station holding).slot i = { s.slot i with
          alert := .following, repeatTimer := .stopped, takeoverTimer := .running 150000000, lastSent := .none }) ∧
      (¬ (holding.toNat < (s.slot i).holding ∨ holding.toNat = (s.slot i).holding ∧ station.toNat < s.running.station) →
        s.takeRaised i station holding = s)) ∧
    ((s.slot i).alert = .following →
      (s.takeRaised i station holding).slot i = { s.slot i with takeoverTimer := .running 150000000 }) ∧
    ((s.slot i).alert = .normal ∨ (s.slot i).alert = .deferred ∨ (s.slot i).alert = .muted →
      s.takeRaised i station holding = s) ∧
    (∀ j, j ≠ i → (s.takeRaised i station holding).slot j = s.slot j) ∧
    (∀ l, SameButIndicator (s.lane l) ((s.takeRaised i station holding).lane l)) ∧
    s.takeRaised i station holding = { s with
      slots := (s.takeRaised i station holding).slots, lanes := (s.takeRaised i station holding).lanes } := by
  unfold State.takeRaised
  simp only [keyLower_iff]
  cases h : (s.slot i).alert with
  | raised =>
    dsimp only
    split
    · rename_i hk
      refine ⟨fun _ => ⟨fun _ => s.changeAlert_slot_self i _ _, fun h => absurd hk h⟩, fun h => (nomatch h), fun h => ?_,
        fun j hj => s.changeAlert_slot_of_ne _ _ hj, fun l => s.changeAlert_lane i _ _ l, ?_⟩
      · rcases h with h | h | h <;> cases h
      · exact (s.changeAlert_kept i _ _).trans (by rw [s.changeAlert_carriers, s.changeAlert_queue]; rfl)
    · rename_i hk
      exact ⟨fun _ => ⟨fun h => absurd h hk, fun _ => rfl⟩, fun h => (nomatch h), fun _ => rfl, fun _ _ => rfl, fun _ => rfl, rfl⟩
  | following =>
    refine ⟨fun h => (nomatch h), fun _ => s.setSlot_slot_self i _, fun h => ?_, fun j hj => s.setSlot_slot_of_ne _ hj,
      fun _ => rfl, rfl⟩
    rcases h with h | h | h <;> cases h
  | normal | deferred | muted =>
    exact ⟨fun h => (nomatch h), fun h => (nomatch h), fun _ => rfl, fun _ _ => rfl, fun _ => rfl, rfl⟩

/-- Settles O42: frames that only refresh, a RAISED frame, and a CLEARED or MUTED one. -/
theorem alertReceptionYieldsAndFollows : Obligations.AlertReceptionYieldsAndFollows := by
  intro s station article status combined holding reorder frame hframe
  subst hframe
  have hidle : ∀ link, Delivers s { station := station, payload := .alert article status combined holding reorder } link →
      s.alertApplies station article status = none →
      RefreshOnly s { station := station, payload := .alert article status combined holding reorder } link
        (exec (.alertReception station article status combined holding reorder) s) := by
    intro link hd hnone
    have hnone : ∀ t : State, t.running = s.running → t.alertApplies station article status = none := fun t ht =>
      (State.alertApplies_congr ht station article status).trans hnone
    have howner : State.takeAlert station article status holding (s.delivered station.toNat link) =
        (s.delivered station.toNat link, []) := by
      unfold State.takeAlert
      rw [hnone (s.delivered station.toNat _) rfl]
    refine ⟨_, _, s.delivered_refreshed _ link, s.mem_owedBy_nil _, (next_of_alert hd howner).trans ?_⟩
    unfold State.afterAlert
    rw [hnone (State.evaluateAll _ _) (State.evaluateAll_running (s.delivered station.toNat _) _)]
    rfl
  refine ⟨fun link hown => hidle link (.own link hown) (State.alertApplies_none (.inl hown.station)), fun hor => ?_,
    fun i hpeer hslot => ?_⟩
  · rcases hor with hout | ⟨hpeer, hnot⟩
    · refine hidle _ hout.delivers (State.alertApplies_none (.inr (.inl fun h => ?_)))
      rcases hout.outside with h0 | h0 <;> simp only at h0 <;> omega
    · exact hidle _ hpeer.delivers (State.alertApplies_none (.inr (.inr hnot)))
  · have happly : ∀ st, alertStatusOf status = some st → s.alertApplies station article status = some (i, st) :=
      fun st hst => State.alertApplies_some hpeer.peer hpeer.valid hslot hst
    have hd := hpeer.delivers
    refine ⟨_, s.delivered_refreshed station.toNat _, s.delivered_frame _ _, fun h1 => ?_, fun h23 => ?_⟩
    · have hst : alertStatusOf status = some .raised := by rw [h1]; rfl
      exact ⟨_, _, next_of_raisedAlert hd (happly _ hst), s.mem_owedBy_nil _, State.takeRaised_spec (s.delivered _ _) i _ _⟩
    · have hst : ∃ st, alertStatusOf status = some st ∧ st ≠ .raised := by
        rcases h23 with h | h <;> rw [h]
        · exact ⟨.cleared, rfl, by simp⟩
        · exact ⟨.muted, rfl, by simp⟩
      obtain ⟨st, hst, hne⟩ := hst
      refine ⟨_, _, s.owedBy station.toNat ++ [i], next_of_endingAlert hd (happly _ hst) hne, rfl, fun j => ?_, ?_⟩
      · rw [State.mem_owedBy_append, List.mem_singleton]
      · obtain ⟨hself, hothers, hframe⟩ := State.takeoverAgain_spec (State.evaluateAll (s.delivered station.toNat (s.link.received
          { station := station, payload := .alert article status combined holding reorder })) (s.owedBy station.toNat ++ [i])) i
        rw [State.evaluateAll_settlingIn] at hself
        exact ⟨hself, hothers, hframe⟩

end Sys2Proof.Machine
end

section
/-! The movement matcher's lists (sections 4.2 to 4.5): what the removal of an entry does, the expiries, and the receptions of
OFFER, CLAIM and PRESENCE. -/

namespace Sys2Proof.Machine

open Sys2Proof.Config

/-! ## Tallies (R52) -/

theorem SameButTallies.refl (u : LaneUnit) : SameButTallies u u := rfl

theorem SameButTallies.trans {u v w : LaneUnit} (h : SameButTallies u v) (g : SameButTallies v w) : SameButTallies u w := by
  unfold SameButTallies at *
  rw [g, h]

theorem State.setTallies_lane_self (s : State) (l : Lane) (f : Tallies → Tallies) : (s.setTallies l f).lane l =
    { s.lane l with counting := { (s.lane l).counting with tallies := f (s.lane l).counting.tallies } } :=
  s.setLane_lane_self l _

theorem State.setTallies_lane_of_ne (s : State) {l m : Lane} (f : Tallies → Tallies) (h : m ≠ l) :
    (s.setTallies l f).lane m = s.lane m := s.setLane_lane_of_ne _ h

theorem State.setTallies_sameButTallies (s : State) (l : Lane) (f : Tallies → Tallies) (m : Lane) :
    SameButTallies (s.lane m) ((s.setTallies l f).lane m) := by
  by_cases h : m = l
  · subst h; rw [State.setTallies_lane_self]; rfl
  · rw [State.setTallies_lane_of_ne s f h]; rfl

/-! ## The removal of a pending-out entry (R62) -/

/-- The tally that a removed entry's units reach (R62). -/
def OutClass.tally (cls : OutClass) (n : Nat) : Tallies → Tallies :=
  match cls with
  | .pick => Tallies.addPicks n
  | .relocatedOut => Tallies.addRelocatedOut n

theorem State.removePending_eq (s : State) (e : PendingOut) (cls : OutClass) : s.removePending e cls = { s with
    lanes := (s.setTallies e.lane (cls.tally e.count)).lanes
    matcher := { s.matcher with pendingOut := s.matcher.pendingOut.filter fun x => decide (x.tag ≠ e.tag) }
    queue := if e.status = .sent then s.queue else (s.withdraw (.offer e.tag)).queue
    link := if e.status = .sent then s.link else (s.withdraw (.offer e.tag)).link } := by
  unfold State.removePending
  cases cls <;> dsimp only <;> split <;> rfl

theorem State.removePending_lane_self (s : State) (e : PendingOut) (cls : OutClass) : (s.removePending e cls).lane e.lane =
    { s.lane e.lane with counting := { (s.lane e.lane).counting with
        tallies := cls.tally e.count (s.lane e.lane).counting.tallies } } := by
  rw [State.removePending_eq]
  exact s.setTallies_lane_self _ _

theorem State.removePending_lane_of_ne (s : State) (e : PendingOut) (cls : OutClass) {m : Lane} (h : m ≠ e.lane) :
    (s.removePending e cls).lane m = s.lane m := by
  rw [State.removePending_eq]
  exact s.setTallies_lane_of_ne _ h

theorem State.removePending_sameButTallies (s : State) (e : PendingOut) (cls : OutClass) (m : Lane) :
    SameButTallies (s.lane m) ((s.removePending e cls).lane m) := by
  rw [State.removePending_eq]
  exact s.setTallies_sameButTallies _ _ m

/-- A withdrawn request is in the queue no longer, whatever else has changed since. -/
theorem State.withdraw_gone (s : State) (k : RequestKey) : k ∉ (s.withdraw k).queue.requests.map Request.key := by
  rw [State.withdraw_eq]
  intro h
  obtain ⟨r, hr, hk⟩ := List.mem_map.mp h
  have := (List.mem_filter.mp hr).2
  simp [hk] at this

/-! ## The removal of a heard offer (R64, R66, R68, R71) -/

theorem State.dropHeard_matcher (s : State) (e : HeardOffer) : (s.dropHeard e).matcher = { s.matcher with
    heard := s.matcher.heard.filter fun x => !(decide (x.station = e.station) && decide (x.tag = e.tag)) } := by
  unfold State.dropHeard State.reclassify
  dsimp only
  split
  · split <;> rfl
  · rfl

/-- The removal of a heard offer is one of the list, of tallies, and of a claim that had not been sent. -/
theorem State.dropHeard_frame (s : State) (e : HeardOffer) : s.dropHeard e = { s with
    lanes := (s.dropHeard e).lanes, matcher := (s.dropHeard e).matcher
    queue := if e.claimStatus = .queued then (s.withdraw (.claim e.station e.tag)).queue else s.queue
    link := if e.claimStatus = .queued then (s.withdraw (.claim e.station e.tag)).link else s.link } := by
  unfold State.dropHeard State.reclassify
  dsimp only
  split
  · split <;> rfl
  · rfl

theorem State.dropHeard_queue (s : State) (e : HeardOffer) : (s.dropHeard e).queue =
    if e.claimStatus = .queued then (s.withdraw (.claim e.station e.tag)).queue else s.queue := by
  conv =>
    lhs
    rw [State.dropHeard_frame]

/-- The rise of a RELOCATION claim that had not been sent is reclassified (R71). -/
theorem State.dropHeard_reclassified (s : State) {e : HeardOffer} {l : Lane} (hq : e.claimStatus = .queued)
    (ht : e.claimType = some .relocation) (hl : e.claimLane = some l) :
    (s.dropHeard e).lanes = (s.setTallies l (Tallies.reclassify e.count)).lanes := by
  unfold State.dropHeard State.reclassify
  dsimp only
  rw [if_pos hq, ht, hl]
  rfl

theorem State.dropHeard_lanes (s : State) {e : HeardOffer}
    (h : ¬ (e.claimStatus = .queued ∧ e.claimType = some .relocation ∧ e.claimLane.isSome = true)) :
    (s.dropHeard e).lanes = s.lanes := by
  unfold State.dropHeard State.reclassify
  dsimp only
  split
  · split
    · rename_i hq _ _ _ ht hl
      exact absurd ⟨hq, ht, by rw [hl]; rfl⟩ h
    · rfl
  · rfl

theorem State.dropHeard_sameButTallies (s : State) (e : HeardOffer) (m : Lane) :
    SameButTallies (s.lane m) ((s.dropHeard e).lane m) := by
  unfold State.dropHeard State.reclassify
  dsimp only
  split
  · split
    · exact State.setTallies_sameButTallies _ _ _ m
    · exact SameButTallies.refl _
  · exact SameButTallies.refl _

/-! ## The expiries (R60, R64) -/

theorem State.pendingOf_some {s : State} {tag : Byte} {e : PendingOut} (h : s.pendingOf tag = some e) : e.tag = tag := by
  simpa using List.find?_some h

theorem exec_pendingOutExpiry_of_some {s : State} {tag : Byte} {e : PendingOut} (h : s.pendingOf tag = some e) :
    exec (.pendingOutExpiry tag) s =
      .next (if e.remaining = 0 then (s.removePending e .pick).evaluateAll (s.slotsFor e.article) else s) := by
  refine congrArg Host.Outcome.next ?_
  dsimp only
  rw [h]

theorem exec_pendingOutExpiry_of_none {s : State} {tag : Byte} (h : s.pendingOf tag = none) :
    exec (.pendingOutExpiry tag) s = .next s := by
  refine congrArg Host.Outcome.next ?_
  dsimp only
  rw [h]

theorem exec_heardOfferExpiry_of_some {s : State} {station : Nat} {tag : Byte} {e : HeardOffer}
    (h : s.heardOf station tag = some e) : exec (.heardOfferExpiry station tag) s =
      .next (if e.remaining = 0 then (s.dropHeard e).evaluateAll (s.slotsFor e.article) else s) := by
  refine congrArg Host.Outcome.next ?_
  dsimp only
  rw [h]

theorem exec_heardOfferExpiry_of_none {s : State} {station : Nat} {tag : Byte} (h : s.heardOf station tag = none) :
    exec (.heardOfferExpiry station tag) s = .next s := by
  refine congrArg Host.Outcome.next ?_
  dsimp only
  rw [h]

/-- Settles O32: the removal of an entry whose window has ended, and no effect otherwise. -/
theorem offerEntriesExpire : Obligations.OfferEntriesExpire := by
  intro s
  refine ⟨fun tag e h => ⟨fun hr => ?_, fun hr => ?_⟩, fun tag hnone => ?_, fun station tag e h => ⟨fun hr => ?_, fun hr => ?_⟩,
    fun station tag hnone => ?_⟩
  · rw [exec_pendingOutExpiry_of_some h, if_neg hr]
  · have htag := State.pendingOf_some h
    refine ⟨s.removePending e .pick, ?_, ?_, s.removePending_lane_self e .pick,
      fun m hm => s.removePending_lane_of_ne e .pick hm, ?_⟩
    · rw [exec_pendingOutExpiry_of_some h, if_pos hr]
      rfl
    · rw [State.removePending_eq, htag]
    · rw [State.removePending_eq, htag]
  · refine exec_pendingOutExpiry_of_none (List.find?_eq_none.mpr fun e he => ?_)
    simpa using hnone e he
  · rw [exec_heardOfferExpiry_of_some h, if_neg hr]
  · obtain ⟨-, hstation, htag⟩ := State.heardOf_some h
    refine ⟨s.dropHeard e, rfl, ?_, ?_, fun l hq ht hl => ?_, s.dropHeard_lanes, ?_⟩
    · rw [exec_heardOfferExpiry_of_some h, if_pos hr]
      rfl
    · rw [State.dropHeard_matcher, hstation, htag]
    · have hlanes := s.dropHeard_reclassified hq ht hl
      have hlane : ∀ m, (s.dropHeard e).lane m = (s.setTallies l (Tallies.reclassify e.count)).lane m := fun m =>
        congrArg (fun v : Vector LaneUnit 4 => v[m.idx]) hlanes
      refine ⟨(hlane l).trans (s.setTallies_lane_self l _), fun m hm => (hlane m).trans (s.setTallies_lane_of_ne _ hm)⟩
    · rw [← hstation, ← htag]
      exact s.dropHeard_frame e
  · refine exec_heardOfferExpiry_of_none (List.find?_eq_none.mpr fun e he => ?_)
    simpa using hnone e he

/-! ## Several heard offers leave (R63, R68) -/

theorem State.dropHeard_rest (s : State) (e : HeardOffer) : s.dropHeard e = { s with
    lanes := (s.dropHeard e).lanes, matcher := (s.dropHeard e).matcher
    queue := { s.queue with requests := (s.dropHeard e).queue.requests }, link := (s.dropHeard e).link } := by
  unfold State.dropHeard State.reclassify
  dsimp only
  split
  · split <;> rfl
  · rfl

theorem State.dropHeards_rest (gone : List HeardOffer) (s : State) : gone.foldl State.dropHeard s = { s with
    lanes := (gone.foldl State.dropHeard s).lanes, matcher := (gone.foldl State.dropHeard s).matcher
    queue := { s.queue with requests := (gone.foldl State.dropHeard s).queue.requests }
    link := (gone.foldl State.dropHeard s).link } := by
  induction gone generalizing s with
  | nil => rfl
  | cons e gone ih =>
    refine (ih (s.dropHeard e)).trans ?_
    exact congrArg (fun u : State => { u with
      lanes := (gone.foldl State.dropHeard (s.dropHeard e)).lanes, matcher := (gone.foldl State.dropHeard (s.dropHeard e)).matcher
      queue := { u.queue with requests := (gone.foldl State.dropHeard (s.dropHeard e)).queue.requests }
      link := (gone.foldl State.dropHeard (s.dropHeard e)).link }) (s.dropHeard_rest e)

theorem State.dropHeards_matcher (gone : List HeardOffer) (s : State) :
    (gone.foldl State.dropHeard s).matcher = { s.matcher with
      heard := s.matcher.heard.filter fun x => gone.all fun e => !(decide (x.station = e.station) && decide (x.tag = e.tag)) } := by
  induction gone generalizing s with
  | nil =>
    have hall : s.matcher.heard.filter (fun _ => true) = s.matcher.heard := List.filter_eq_self.mpr fun _ _ => rfl
    exact congrArg (fun es : List HeardOffer => ({ s.matcher with heard := es } : Matcher)) hall.symm
  | cons e gone ih =>
    rw [List.foldl_cons, ih, State.dropHeard_matcher]
    simp only [List.filter_filter, List.all_cons]
    congr 2
    funext x
    rw [Bool.and_comm]

theorem State.dropHeards_sameButTallies (gone : List HeardOffer) (s : State) (l : Lane) :
    SameButTallies (s.lane l) ((gone.foldl State.dropHeard s).lane l) := by
  induction gone generalizing s with
  | nil => exact SameButTallies.refl _
  | cons e gone ih => exact (s.dropHeard_sameButTallies e l).trans (ih _)

theorem State.dropHeards_slots (gone : List HeardOffer) (s : State) : (gone.foldl State.dropHeard s).slots = s.slots := by
  rw [State.dropHeards_rest]

theorem State.mem_dropHeard_requests (s : State) (e : HeardOffer) (r : Request) : r ∈ (s.dropHeard e).queue.requests ↔
    r ∈ s.queue.requests ∧ (e.claimStatus = .queued → r.key ≠ .claim e.station e.tag) := by
  rw [State.dropHeard_queue]
  split
  · rename_i h
    rw [State.withdraw_eq]
    simp [h]
  · rename_i h
    simp [h]

/-- The requests that are left are those that no removed offer's claim has taken with it. -/
theorem State.mem_dropHeards_requests (gone : List HeardOffer) (s : State) (r : Request) :
    r ∈ (gone.foldl State.dropHeard s).queue.requests ↔
      r ∈ s.queue.requests ∧ ∀ e ∈ gone, e.claimStatus = .queued → r.key ≠ .claim e.station e.tag := by
  induction gone generalizing s with
  | nil => simp
  | cons e gone ih =>
    rw [List.foldl_cons, ih, State.mem_dropHeard_requests, List.forall_mem_cons, and_assoc]

theorem State.mem_slotsFor (s : State) (article : Nat) (i : Slot) :
    i ∈ s.slotsFor article ↔ articleSlot s.running article = some i := Option.mem_toList

/-! ## OFFER (R63) -/

/-- The heard offers of a station and tag (R63). -/
def State.sameOffer (s : State) (station : Nat) (tag : Byte) : List HeardOffer :=
  s.matcher.heard.filter fun x => decide (x.station = station) && decide (x.tag = tag)

/-- In a sound list an entry of a station and tag is the only one of that name. -/
theorem ListsSound.sameOffer_of_some {s : State} (h : ListsSound s) {station : Nat} {tag : Byte} {e : HeardOffer}
    (he : s.heardOf station tag = some e) : s.sameOffer station tag = [e] := by
  have hnodup : s.matcher.heard.Nodup := 
    (List.pairwise_map.mp h.offers).imp fun hne heq => hne (congrArg (fun e => (e.station, e.tag)) heq)
  obtain ⟨hmem, hst, htag⟩ := State.heardOf_some he
  refine (List.perm_singleton.mp ((List.perm_ext_iff_of_nodup (hnodup.filter _)
    (List.nodup_cons.mpr ⟨List.not_mem_nil, List.nodup_nil⟩)).mpr fun x => ?_))
  rw [List.mem_filter, List.mem_singleton, Bool.and_eq_true, decide_eq_true_eq, decide_eq_true_eq]
  constructor
  · rintro ⟨hx, h1, h2⟩
    exact eq_of_mem_of_nodup_map h.offers hx hmem (by rw [h1, h2, hst, htag])
  · rintro rfl
    exact ⟨hmem, hst, htag⟩

theorem State.sameOffer_of_none {s : State} {station : Nat} {tag : Byte} (he : s.heardOf station tag = none) :
    s.sameOffer station tag = [] := by
  refine List.filter_eq_nil_iff.mpr fun x hx hxx => ?_
  rw [Bool.and_eq_true, decide_eq_true_eq, decide_eq_true_eq] at hxx
  exact State.heardOf_none he x hx hxx

theorem ListsSound.replaceHeard {s : State} (h : ListsSound s) (station : Nat) (tag : Byte) :
    s.replaceHeard station tag = ((s.sameOffer station tag).foldl State.dropHeard s,
      (s.sameOffer station tag).flatMap fun e => s.slotsFor e.article) := by
  unfold State.replaceHeard
  cases he : s.heardOf station tag with
  | none => rw [State.sameOffer_of_none he]; rfl
  | some e => rw [h.sameOffer_of_some he]; simp

/-- The heard offers that leave to make room: of eight, the oldest (R63). -/
def State.oldestOfFull (s : State) : List HeardOffer := if s.matcher.heard.length < 8 then [] else s.matcher.heard.take 1

theorem State.roomForHeard_eq (s : State) : s.roomForHeard =
    (s.oldestOfFull.foldl State.dropHeard s, s.oldestOfFull.flatMap fun e => s.slotsFor e.article) := by
  unfold State.roomForHeard State.oldestOfFull
  cases hh : s.matcher.heard with
  | nil => simp
  | cons e rest =>
    by_cases h8 : 8 ≤ (e :: rest).length
    · rw [if_neg (Nat.not_lt.mpr h8)]
      exact (if_pos h8).trans (by simp)
    · rw [if_pos (Nat.not_le.mp h8)]
      exact if_neg h8

/-- What is left of a sound list when the oldest of eight has left. -/
theorem oldest_dropped {s : State} (h : (s.matcher.heard.map fun e => (e.station, e.tag)).Nodup) :
    (s.oldestOfFull.foldl State.dropHeard s).matcher.heard =
      if s.matcher.heard.length < 8 then s.matcher.heard else s.matcher.heard.tail := by
  unfold State.oldestOfFull
  split
  · rfl
  · rw [State.dropHeards_matcher]
    cases hh : s.matcher.heard with
    | nil => rfl
    | cons e rest =>
      rw [hh, List.map_cons, List.nodup_cons] at h
      simp only [List.take_succ_cons, List.take_zero, List.all_cons, List.all_nil, Bool.and_true, List.tail_cons]
      rw [List.filter_cons_of_neg (by simp)]
      refine List.filter_eq_self.mpr fun x hx => ?_
      refine Classical.byContradiction fun hxx => ?_
      simp only [Bool.not_eq_true, Bool.not_eq_false', Bool.and_eq_true, decide_eq_true_eq] at hxx
      exact h.1 (List.mem_map.mpr ⟨x, hx, by rw [hxx.1, hxx.2]⟩)

theorem State.sameOffer_dropped (s : State) (station : Nat) (tag : Byte) :
    ((s.sameOffer station tag).foldl State.dropHeard s).matcher.heard =
      s.matcher.heard.filter fun x => !(decide (x.station = station) && decide (x.tag = tag)) := by
  rw [State.dropHeards_matcher]
  refine List.filter_congr fun x hx => Bool.eq_iff_iff.mpr ?_
  simp only [State.sameOffer, List.all_eq_true, List.mem_filter, Bool.not_eq_true', Bool.and_eq_false_iff, Bool.and_eq_true,
    decide_eq_true_eq, decide_eq_false_iff_not]
  constructor
  · intro h
    refine Classical.byContradiction fun hsame => ?_
    rw [not_or, Classical.not_not, Classical.not_not] at hsame
    rcases h x ⟨hx, hsame⟩ with h | h <;> exact h rfl
  · rintro h e ⟨-, hst, htag⟩
    rw [hst, htag]
    exact h

theorem State.takeOffer_idle {s : State} {station tag : Byte} {article : Article} {count : BitVec 16} {grams : BitVec 24}
    {tol : BitVec 16} {window : Byte} (h : ¬ (1 ≤ station.toNat ∧ station.toNat ≤ 120) ∨ station = s.ownStation ∨
      article = 0 ∨ count = 0 ∨ window = 0) :
    s.takeOffer station tag article count grams tol window = (s, []) := by
  rw [← validStation_iff, Bool.not_eq_true] at h
  exact if_pos h

/-- The heard offers that leave for a new one of a station and tag: the one of that name, and of eight others the oldest (R63). -/
def State.leavingFor (s : State) (station : Nat) (tag : Byte) : List HeardOffer :=
  s.sameOffer station tag ++ ((s.sameOffer station tag).foldl State.dropHeard s).oldestOfFull

/-- An OFFER that enters the list (R63). -/
theorem State.takeOffer_enters {s : State} (hs : ListsSound s) {station tag : Byte} {article : Article} {count : BitVec 16}
    {grams : BitVec 24} {tol : BitVec 16} {window : Byte} {others : List HeardOffer}
    (hvalid : 1 ≤ station.toNat ∧ station.toNat ≤ 120) (hpeer : station ≠ s.ownStation) (ha : article ≠ 0) (hc : count ≠ 0)
    (hw : window ≠ 0)
    (hothers : others = s.matcher.heard.filter fun x => !(decide (x.station = station.toNat) && decide (x.tag = tag))) :
    s.takeOffer station tag article count grams tol window =
      ({ (s.leavingFor station.toNat tag).foldl State.dropHeard s with
        matcher := { s.matcher with
          heard := (if others.length < 8 then others else others.tail) ++
            [{ station := station.toNat, tag := tag, article := article.toNat, count := count.toNat, grams := grams.toNat,
               tol := tol.toNat, remaining := min 120 window.toNat * 1000000, claimStatus := .none, claimType := none,
               claimLane := none }] } },
        ((s.leavingFor station.toNat tag).flatMap fun e => s.slotsFor e.article) ++ s.slotsFor article.toNat) := by
  have hno : ¬ (validStation station.toNat = false ∨ station = s.ownStation ∨ article = 0 ∨ count = 0 ∨ window = 0) := by
    rw [not_or, not_or, not_or, not_or, Bool.not_eq_false, validStation_iff]
    exact ⟨hvalid, hpeer, ha, hc, hw⟩
  have hleft := s.sameOffer_dropped station.toNat tag
  have hnodup : (((s.sameOffer station.toNat tag).foldl State.dropHeard s).matcher.heard.map
      fun e => (e.station, e.tag)).Nodup := by
    rw [hleft]
    exact hs.offers.sublist (List.filter_sublist.map _)
  have hrunning : ((s.sameOffer station.toNat tag).foldl State.dropHeard s).running = s.running := by
    rw [State.dropHeards_rest]
  have hslots : ∀ article, ((s.sameOffer station.toNat tag).foldl State.dropHeard s).slotsFor article = s.slotsFor article :=
    fun article => by unfold State.slotsFor; rw [hrunning]
  have hroom := oldest_dropped hnodup
  rw [hleft, ← hothers] at hroom
  rw [State.takeOffer, if_neg hno, hs.replaceHeard]
  dsimp only
  rw [State.roomForHeard_eq, hroom]
  unfold State.leavingFor
  rw [List.foldl_append, List.flatMap_append]
  simp only [hslots]
  refine Prod.ext ?_ rfl
  have hmatcher : (((s.sameOffer station.toNat tag).foldl State.dropHeard s).oldestOfFull.foldl State.dropHeard
      ((s.sameOffer station.toNat tag).foldl State.dropHeard s)).matcher = { s.matcher with
        heard := if others.length < 8 then others else others.tail } := by
    rw [State.dropHeards_matcher, State.dropHeards_matcher] at hroom ⊢
    rw [← hroom]
  simp only [State.setHeard, hmatcher]
  rfl

theorem State.leavingFor_eq {s : State} {station : Nat} {tag : Byte} {others : List HeardOffer}
    (hothers : others = s.matcher.heard.filter fun x => !(decide (x.station = station) && decide (x.tag = tag))) :
    s.leavingFor station tag = s.matcher.heard.filter (fun x => decide (x.station = station) && decide (x.tag = tag)) ++
      (if others.length < 8 then [] else others.take 1) := by
  unfold State.leavingFor State.oldestOfFull
  rw [s.sameOffer_dropped station tag, ← hothers]
  rfl

/-- Settles O33: frames that only refresh, offers not entered, and the entry of an offer. -/
theorem offerReceptionEntersList : Obligations.OfferReceptionEntersList := by
  intro s station tag article count grams tol window frame hframe
  subst hframe
  refine ⟨fun link hown => refreshOnly_of_idle (.own link hown) (State.takeOffer_idle (.inr (.inl hown.station))),
    fun hout => refreshOnly_of_idle hout.delivers (State.takeOffer_idle (.inl fun h => ?_)), fun hpeer hs => ?_⟩
  · rcases hout.outside with h0 | h0 <;> simp only at h0 <;> omega
  have hd := hpeer.delivers
  by_cases hidle : article = 0 ∨ count = 0 ∨ window = 0
  · refine ⟨_, _, _, next_of_delivers hd (State.takeOffer_idle (.inr (.inr hidle))), s.delivered_refreshed _ _,
      s.delivered_frame _ _, fun _ => ⟨rfl, s.mem_owedBy_nil _⟩, fun ha hc hw => ?_, fun _ => rfl, rfl, rfl⟩
    rcases hidle with h | h | h
    · exact absurd h ha
    · exact absurd h hc
    · exact absurd h hw
  · obtain ⟨ha, hc, hw⟩ : article ≠ 0 ∧ count ≠ 0 ∧ window ≠ 0 := by simpa [not_or] using hidle
    have hentry := State.takeOffer_enters (s := s.delivered station.toNat (s.link.received { station := station, payload :=
      (.offer tag article count grams tol window) })) (station := station) (tag := tag) (grams := grams) (tol := tol)
      { hs with } hpeer.valid hpeer.peer ha hc hw rfl
    refine ⟨_, _, _, next_of_delivers hd hentry, s.delivered_refreshed _ _, s.delivered_frame _ _,
      fun h => absurd h hidle, fun _ _ _ => ⟨_, _, rfl, rfl, ?_, fun i => ?_⟩, fun l => ?_, ?_, ?_⟩
    · rw [State.leavingFor_eq rfl]
      rfl
    · rw [State.mem_owedBy_append, List.mem_append, List.mem_flatMap, State.mem_slotsFor, State.leavingFor_eq rfl]
      simp only [State.mem_slotsFor]
      exact or_congr_right or_comm
    · exact State.dropHeards_sameButTallies _ _ l
    · exact State.dropHeards_slots _ _
    · rw [State.dropHeards_rest]
      rfl

/-! ## CLAIM (R61, R66, R67) -/

theorem claimHanded_iff (offerStation type : Byte) : ClaimHanded offerStation type ↔
    validStation offerStation.toNat = true ∧ claimTypeOf type ≠ none := by
  unfold ClaimHanded claimTypeOf
  rw [validStation_iff]
  refine and_congr_right fun _ => ?_
  by_cases h1 : type = 1
  · simp [h1]
  · by_cases h2 : type = 2
    · simp [h2]
    · rw [if_neg h1, if_neg h2]
      exact ⟨fun h => absurd h (not_or.mpr ⟨h1, h2⟩), fun h => absurd rfl h⟩

/-- A CLAIM that is not handed on, or the node's own cancelling CLAIM (R137). -/
theorem State.takeClaim_idle {s : State} {station offerStation tag type : Byte}
    (h : ¬ (1 ≤ station.toNat ∧ station.toNat ≤ 120) ∨ ¬ ClaimHanded offerStation type ∨
      offerStation = s.ownStation ∧ station = s.ownStation) : s.takeClaim station offerStation tag type = (s, []) := by
  unfold State.takeClaim
  by_cases hno : validStation station.toNat = false ∨ validStation offerStation.toNat = false ∨ claimTypeOf type = none
  · exact if_pos hno
  · rw [not_or, not_or, Bool.not_eq_false, Bool.not_eq_false, validStation_iff] at hno
    obtain ⟨hst, hoffer, htype⟩ := hno
    have hown := (h.resolve_left fun hno => hno hst).resolve_left fun hno => hno ((claimHanded_iff _ _).mpr ⟨hoffer, htype⟩)
    rw [if_neg, if_pos hown.1, if_pos hown.2]
    rw [not_or, not_or, Bool.not_eq_false, Bool.not_eq_false, validStation_iff]
    exact ⟨hst, hoffer, htype⟩

/-- A CLAIM that is handed on: on an own entry, on a lost heard offer, on a won one (R61, R66, R67). -/
theorem State.takeClaim_handed {s : State} {station offerStation tag type : Byte}
    (hst : 1 ≤ station.toNat ∧ station.toNat ≤ 120) (hh : ClaimHanded offerStation type) :
    (offerStation = s.ownStation → station ≠ s.ownStation →
      (∀ e, s.pendingOf tag = some e →
        s.takeClaim station offerStation tag type = (s.removePending e .relocatedOut, s.slotsFor e.article)) ∧
      (s.pendingOf tag = none → s.takeClaim station offerStation tag type = (s, []))) ∧
    (offerStation ≠ s.ownStation →
      (∀ e, s.heardOf offerStation.toNat tag = some e →
        (station = s.ownStation →
          s.takeClaim station offerStation tag type = (s.forgetHeard e.station e.tag, s.slotsFor e.article)) ∧
        (station ≠ s.ownStation → s.takeClaim station offerStation tag type = (s.dropHeard e, s.slotsFor e.article))) ∧
      (s.heardOf offerStation.toNat tag = none → s.takeClaim station offerStation tag type = (s, []))) := by
  have hno : ¬ (validStation station.toNat = false ∨ validStation offerStation.toNat = false ∨ claimTypeOf type = none) := by
    rw [not_or, not_or, Bool.not_eq_false, Bool.not_eq_false, validStation_iff]
    exact ⟨hst, (claimHanded_iff _ _).mp hh⟩
  unfold State.takeClaim
  rw [if_neg hno]
  refine ⟨fun hown hpeer => ⟨fun e he => ?_, fun hnone => ?_⟩, fun hother => ⟨fun e he => ?_, fun hnone => ?_⟩⟩
  · rw [if_pos hown, if_neg hpeer, he]
  · rw [if_pos hown, if_neg hpeer, hnone]
  · rw [if_neg hother, he]
    exact ⟨fun hown => if_pos hown, fun hpeer => if_neg hpeer⟩
  · rw [if_neg hother, hnone]

theorem State.forgetHeard_of_none {s : State} {station : Nat} {tag : Byte} (h : s.heardOf station tag = none) :
    s.matcher.heard.filter (fun x => !(decide (x.station = station) && decide (x.tag = tag))) = s.matcher.heard := by
  refine List.filter_eq_self.mpr fun x hx => ?_
  have := State.heardOf_none h x hx
  simp only [Bool.not_eq_true', Bool.and_eq_false_iff, decide_eq_false_iff_not]
  exact Classical.not_and_iff_not_or_not.mp this

/-- Settles O34: frames that only refresh, another station's claim, and the node's own. -/
theorem claimReceptionDecidesEntries : Obligations.ClaimReceptionDecidesEntries := by
  intro s station offerStation tag type frame hframe
  subst hframe
  refine ⟨fun hor => ?_, fun link hown hor => ?_, fun hpeer hh => ?_, fun link hown h1 h120 hh hother => ?_⟩
  · rcases hor with hout | ⟨hpeer, hnot⟩
    · refine refreshOnly_of_idle hout.delivers (State.takeClaim_idle (.inl fun h => ?_))
      rcases hout.outside with h0 | h0 <;> simp only at h0 <;> omega
    · exact refreshOnly_of_idle hpeer.delivers (State.takeClaim_idle (.inr (.inl hnot)))
  · refine refreshOnly_of_idle (.own link hown) (State.takeClaim_idle ?_)
    rcases hor with h | h | h | h
    · exact .inl fun h1 => by omega
    · exact .inl fun h1 => by omega
    · exact .inr (.inl h)
    · exact .inr (.inr ⟨h, hown.station⟩)
  · obtain ⟨hownOffer, hpeerOffer⟩ := State.takeClaim_handed
      (s := s.delivered station.toNat (s.link.received { station := station, payload := .claim offerStation tag type }))
      (tag := tag) hpeer.valid hh
    have hd := hpeer.delivers
    by_cases ho : offerStation = s.ownStation
    · obtain ⟨hsome, hnone⟩ := hownOffer ho hpeer.peer
      cases hp : s.pendingOf tag with
      | none =>
        refine ⟨_, _, _, next_of_delivers hd (hnone hp), s.delivered_refreshed _ _, s.delivered_frame _ _,
          fun _ => ⟨fun e he => ?_, fun _ => ⟨rfl, s.mem_owedBy_nil _⟩⟩, fun h => absurd ho h, fun _ => rfl, rfl⟩
        have := hp.symm.trans he
        cases this
      | some e =>
        have htag := State.pendingOf_some hp
        refine ⟨_, _, _, next_of_delivers hd (hsome e hp), s.delivered_refreshed _ _, s.delivered_frame _ _,
          fun _ => ⟨fun x hx => ?_, fun hx => ?_⟩, fun h => absurd ho h,
          fun l => State.removePending_sameButTallies _ e .relocatedOut l, ?_⟩
        · have hxe : e = x := Option.some.inj (hp.symm.trans hx)
          subst hxe
          have hlane := State.removePending_lane_self
            (s.delivered station.toNat (s.link.received { station := station, payload := .claim offerStation tag type }))
            e .relocatedOut
          refine ⟨rfl, fun i => ?_, ?_, congrArg (fun u => u.counting.tallies) hlane,
            fun m hm => State.removePending_lane_of_ne _ e .relocatedOut hm, fun hsent => ?_, fun hsent => ?_⟩
          · rw [State.mem_owedBy_append, State.mem_slotsFor]
            rfl
          · rw [State.removePending_eq, htag]
            rfl
          · rw [State.removePending_eq, if_neg hsent, htag]
            exact State.withdraw_gone _ _
          · rw [State.removePending_eq, if_pos hsent]
            rfl
        · exact absurd htag (hx e (List.mem_of_find?_eq_some hp))
        · rw [State.removePending_eq]
          by_cases hsent : e.status = .sent
          · simp only [if_pos hsent]; rfl
          · simp only [if_neg hsent]; rfl
    · obtain ⟨hsome, hnone⟩ := hpeerOffer ho
      cases hp : s.heardOf offerStation.toNat tag with
      | none =>
        refine ⟨_, _, _, next_of_delivers hd (hnone hp), s.delivered_refreshed _ _, s.delivered_frame _ _,
          fun h => absurd h ho, fun _ => ⟨fun e he => ?_, fun _ => ⟨rfl, s.mem_owedBy_nil _⟩⟩, fun _ => rfl, rfl⟩
        have := hp.symm.trans he
        cases this
      | some e =>
        obtain ⟨hmem, hst, htag⟩ := State.heardOf_some hp
        refine ⟨_, _, _, next_of_delivers hd ((hsome e hp).2 hpeer.peer),
          s.delivered_refreshed _ _, s.delivered_frame _ _,
          fun h => absurd h ho, fun _ => ⟨fun x hx => ?_, fun hx => ?_⟩,
          fun l => State.dropHeard_sameButTallies _ e l, ?_⟩
        · have hxe : e = x := Option.some.inj (hp.symm.trans hx)
          subst hxe
          refine ⟨rfl, fun i => ?_, ?_, fun hq => ?_, fun l hq ht hl => ?_, fun hq => ⟨?_, ?_⟩⟩
          · rw [State.mem_owedBy_append, State.mem_slotsFor]
            rfl
          · rw [State.dropHeard_matcher, hst, htag]
            rfl
          · rw [State.dropHeard_queue, if_pos hq, hst, htag]
            exact State.withdraw_gone _ _
          · have hlanes := State.dropHeard_reclassified
              (s.delivered station.toNat (s.link.received { station := station, payload := .claim offerStation tag type }))
              hq ht hl
            have hlane := congrArg (fun v : Vector LaneUnit 4 => v[l.idx]) hlanes
            exact congrArg (fun u : LaneUnit => u.counting.tallies) (hlane.trans (State.setTallies_lane_self _ l _))
          · exact State.dropHeard_lanes _ fun h => hq h.1
          · rw [State.dropHeard_queue, if_neg hq]
            rfl
        · exact absurd ⟨hst, htag⟩ (hx e hmem)
        · rw [State.dropHeard_rest]
          rfl
  · obtain ⟨-, hpeerOffer⟩ := State.takeClaim_handed (s := s.delivered station.toNat link) (tag := tag) ⟨h1, h120⟩ hh
    obtain ⟨hsome, hnone⟩ := hpeerOffer hother
    cases hp : s.heardOf offerStation.toNat tag with
    | none =>
      refine ⟨_, _, next_of_delivers (.own link hown) (hnone hp), s.delivered_refreshed _ _, ?_, fun i => ?_, rfl⟩
      · rw [State.forgetHeard_of_none hp]
        rfl
      · rw [State.mem_owedBy_nil]
        refine ⟨.inl, fun h => h.resolve_right ?_⟩
        rintro ⟨e, he, -⟩
        have := hp.symm.trans he
        cases this
    | some e =>
      obtain ⟨-, hst, htag⟩ := State.heardOf_some hp
      refine ⟨_, _, next_of_delivers (.own link hown)
        ((hsome e hp).1 hown.station), s.delivered_refreshed _ _, ?_,
        fun i => ?_, rfl⟩
      · rw [← hst, ← htag]
        rfl
      · rw [State.mem_owedBy_append, State.mem_slotsFor]
        refine or_congr_right ⟨fun h => ⟨e, hp, h⟩, ?_⟩
        rintro ⟨x, hx, h⟩
        have hxe : e = x := Option.some.inj (hp.symm.trans hx)
        exact hxe ▸ h

/-! ## PRESENCE (R68, R87) -/

/-- STOCK requests for the slots of a list that are ready in a state (R87). -/
def State.placeStocks (s : State) (is : List Slot) (b : State) : State :=
  is.foldl (fun q i => if (s.slot i).ready = true then q.place (.stock i) else q) b

theorem State.placeStocks_rest (s : State) (is : List Slot) (b : State) : s.placeStocks is b =
    { b with queue := { b.queue with requests := (s.placeStocks is b).queue.requests } } := by
  unfold State.placeStocks
  induction is generalizing b with
  | nil => rfl
  | cons i is ih =>
    rw [List.foldl_cons]
    refine (ih _).trans ?_
    split <;> rfl

theorem State.placeReadyStocks_eq {s b : State} (hslots : b.slots = s.slots) (hrunning : b.running = s.running) :
    b.placeReadyStocks = s.placeStocks (articleSlots s.running) b := by
  unfold State.placeReadyStocks
  rw [hrunning]
  generalize articleSlots s.running = is
  induction is generalizing b with
  | nil => rfl
  | cons i is ih =>
    have hready : (b.slot i).ready = (s.slot i).ready :=
      congrArg (fun v : Vector SlotUnit 8 => v[i].ready) hslots
    unfold State.placeStocks at ih ⊢
    rw [List.foldl_cons, List.foldl_cons, hready]
    unfold State.placeStock
    refine ih ?_ ?_ <;> split <;> assumption

theorem State.mem_place (s : State) (k l : RequestKey) :
    l ∈ (s.place k).queue.requests.map Request.key ↔ l = k ∨ l ∈ s.queue.requests.map Request.key := by
  rw [State.place_requests, placeIn_keys]
  split
  · exact ⟨.inr, fun h => h.elim (fun h => h ▸ ‹_›) id⟩
  · rw [List.mem_append, List.mem_singleton]
    exact or_comm

theorem State.mem_placeStocks {s : State} {is : List Slot} {i : Slot} (hi : i ∈ is) (hr : (s.slot i).ready = true) (b : State) :
    .stock i ∈ (s.placeStocks is b).queue.requests.map Request.key := by
  have kept : ∀ (is : List Slot) (q : State), RequestKey.stock i ∈ q.queue.requests.map Request.key →
      .stock i ∈ (s.placeStocks is q).queue.requests.map Request.key := by
    intro is
    induction is with
    | nil => exact fun _ h => h
    | cons j is ih =>
      intro q h
      refine ih _ ?_
      dsimp only
      split
      · exact (q.mem_place _ _).mpr (.inr h)
      · exact h
  induction is generalizing b with
  | nil => cases hi
  | cons j is ih =>
    rcases List.mem_cons.mp hi with rfl | hi
    · refine kept is _ ?_
      dsimp only
      rw [if_pos hr]
      exact (b.mem_place _ _).mpr (.inl rfl)
    · exact ih hi _

/-- The restart flag of a PRESENCE: another station's entries and heard offers leave, and STOCK requests are placed (R68, R87). -/
theorem State.takePresence_restarted {s : State} {station restartByte : Byte} (h : restartByte.getLsbD 7 = true)
    (hpeer : station ≠ s.ownStation) : s.takePresence station restartByte =
      ((s.matcher.heard.filter fun e => decide (e.station = station.toNat)).foldl State.dropHeard
        (s.placeStocks (articleSlots s.running) (s.mapStation station.toNat fun _ => none)),
        (s.slotsWhere station.toNat fun _ => true) ++ s.purgedSlots station.toNat) := by
  unfold State.takePresence restartFlagOf
  rw [if_neg (by simp [h]), if_neg hpeer,
    State.placeReadyStocks_eq (s := s) (b := s.mapStation station.toNat fun _ => none) rfl rfl]
  unfold State.purgeHeard
  rw [State.placeStocks_rest]
  rfl

theorem State.takePresence_own {s : State} {station restartByte : Byte} (h : restartByte.getLsbD 7 = true)
    (hown : station = s.ownStation) : s.takePresence station restartByte = (s.placeStocks (articleSlots s.running) s, []) := by
  unfold State.takePresence restartFlagOf
  rw [if_neg (by simp [h]), if_pos hown, State.placeReadyStocks_eq (s := s) rfl rfl]

theorem State.takePresence_clear {s : State} {station restartByte : Byte} (h : restartByte.getLsbD 7 = false) :
    s.takePresence station restartByte = (s, []) := if_pos h

theorem mem_articleSlots (cfg : NodeConfig) (i : Slot) : i ∈ articleSlots cfg ↔ slotClass cfg i = .article := by
  unfold articleSlots
  rw [List.mem_filter, decide_eq_true_eq]
  exact and_iff_right (mem_allSlots i)

/-- The entries of a station have left the table that its refresh made (R87). -/
theorem State.delivered_purged (s : State) (station : Nat) (link : Link) (p : Fin 32) :
    ((s.delivered station link).mapStation station fun _ => none).carriers[p] = match s.carriers[p] with
      | some e => if e.station = station then none else some e
      | none => none := by
  rw [State.mapStation_get, s.delivered_refreshed station link p]
  cases s.carriers[p] with
  | none => rfl
  | some e => by_cases h : e.station = station <;> simp [h]

theorem State.mem_delivered_slotsWhere (s : State) (station : Nat) (link : Link) (i : Slot) :
    i ∈ (s.delivered station link).slotsWhere station (fun _ => true) ↔
      ∃ (p : Fin 32) (e : CarrierEntry), s.carriers[p] = some e ∧ e.station = station ∧ e.slot = i := by
  rw [State.mem_slotsWhere]
  have hplace := s.delivered_refreshed station link
  constructor
  · rintro ⟨p, e, hp, hst, -, hi⟩
    rw [hplace p] at hp
    cases hs : s.carriers[p] with
    | none => simp [hs] at hp
    | some x =>
      simp only [hs] at hp
      split at hp <;> cases hp
      · exact ⟨p, x, hs, hst, hi⟩
      · exact ⟨p, e, hs, hst, hi⟩
  · rintro ⟨p, e, hp, hst, hi⟩
    refine ⟨p, { e with age := 0, band := .fresh }, ?_, hst, rfl, hi⟩
    rw [hplace p, hp]
    exact if_pos hst

theorem State.mem_purgedSlots (s : State) (station : Nat) (i : Slot) : i ∈ s.purgedSlots station ↔
    ∃ e ∈ s.matcher.heard, e.station = station ∧ articleSlot s.running e.article = some i := by
  unfold State.purgedSlots
  simp only [List.mem_flatMap, List.mem_filter, decide_eq_true_eq, State.mem_slotsFor, and_assoc]

/-- What is left of the heard offers when those of a station have left. -/
theorem purged_heard (s q : State) (station : Nat) (hq : q.matcher = s.matcher) :
    ((s.matcher.heard.filter fun e => decide (e.station = station)).foldl State.dropHeard q).matcher = { s.matcher with
      heard := s.matcher.heard.filter (fun e => decide (e.station ≠ station)) } := by
  rw [State.dropHeards_matcher, hq]
  refine congrArg (fun heard => { s.matcher with heard := heard }) (List.filter_congr fun x hx => Bool.eq_iff_iff.mpr ?_)
  simp only [List.all_eq_true, List.mem_filter, Bool.not_eq_true', Bool.and_eq_false_iff, decide_eq_true_eq,
    decide_eq_false_iff_not]
  constructor
  · rintro h rfl
    rcases h x ⟨hx, rfl⟩ with h | h <;> exact h rfl
  · rintro h e ⟨-, rfl⟩
    exact .inl h

/-- Settles O35: the restart flag of another station, a frame without it, and the node's own. -/
theorem presenceRestartFlagPurges : Obligations.PresenceRestartFlagPurges := by
  intro s station restartByte health frame hframe stocks hstocks
  subst hframe
  have hstocks : ∀ b, stocks b = s.placeStocks (articleSlots s.running) b := fun b => by rw [hstocks]; rfl
  refine ⟨fun hor => ?_, fun link hown => ?_⟩
  · have hd := hor.elim PeerFrame.delivers OutsideFrame.delivers
    have hpeer : station ≠ s.ownStation := hor.elim PeerFrame.peer OutsideFrame.peer
    cases hflag : restartByte.getLsbD 7 with
    | false =>
      refine ⟨_, _, _, next_of_delivers hd (State.takePresence_clear hflag), s.delivered_frame _ _, fun h => (nomatch h),
        fun _ => ⟨rfl, s.delivered_refreshed _ _, s.mem_owedBy_nil _⟩, fun _ => rfl, rfl, rfl⟩
    | true =>
      refine ⟨_, (s.delivered station.toNat (s.link.received { station := station, payload := .presence restartByte health
        })).mapStation station.toNat fun _ => none, _, next_of_delivers hd (State.takePresence_restarted hflag hpeer), rfl,
        fun _ => ⟨s.delivered_purged _ _, ?_, ?_, fun i hi hr => ?_, fun e he hst hq hk => ?_, fun i => ?_⟩,
        fun h => (nomatch h), fun l => ?_, ?_, ?_⟩
      · rw [hstocks]
        rfl
      · refine purged_heard s _ station.toNat ?_
        rw [State.placeStocks_rest]
        rfl
      · obtain ⟨r, hrm, hrk⟩ := List.mem_map.mp (State.mem_placeStocks ((mem_articleSlots _ i).mpr hi) hr
          ((s.delivered station.toNat (s.link.received { station := station, payload := .presence restartByte health
            })).mapStation station.toNat fun _ => none))
        refine List.mem_map.mpr ⟨r, (State.mem_dropHeards_requests _ _ r).mpr ⟨hrm, fun e _ _ h => ?_⟩, hrk⟩
        rw [hrk] at h
        cases h
      · obtain ⟨r, hrm, hrk⟩ := List.mem_map.mp hk
        refine ((State.mem_dropHeards_requests _ _ r).mp hrm).2 e (List.mem_filter.mpr ⟨he, ?_⟩) hq hrk
        simpa using hst
      · rw [State.mem_owedBy_append, List.mem_append, State.mem_delivered_slotsWhere, State.mem_purgedSlots]
        refine ⟨fun h => h.elim (fun ⟨p, e, hp, hst, _, hi⟩ => .inl ⟨p, e, hp, hst, hi⟩) id, .inr⟩
      · refine SameButTallies.trans ?_ (State.dropHeards_sameButTallies _ _ l)
        rw [State.placeStocks_rest]
        rfl
      · rw [State.dropHeards_slots, State.placeStocks_rest]
        rfl
      · rw [State.dropHeards_rest, State.placeStocks_rest]
        rfl
  · cases hflag : restartByte.getLsbD 7 with
    | false =>
      exact ⟨_, _, _, next_of_delivers (.own link hown) (State.takePresence_clear hflag), s.delivered_refreshed _ _,
        s.delivered_frame _ _, rfl, s.mem_owedBy_nil _⟩
    | true =>
      refine ⟨_, _, _, next_of_delivers (.own link hown) (State.takePresence_own hflag hown.station), s.delivered_refreshed _ _,
        s.delivered_frame _ _, ?_, s.mem_owedBy_nil _⟩
      rw [if_pos rfl, hstocks]
      rfl

end Sys2Proof.Machine
end

section
/-! The carrier table's places (section 5.3), and the reception of STOCK. -/

namespace Sys2Proof.Machine

open Sys2Proof.Config

/-! ## The lowest-numbered empty place (R86) -/

theorem State.emptyPlace_eq_some {s : State} {p : Fin 32} (hp : s.carriers[p] = none)
    (hlow : ∀ q : Fin 32, q < p → s.carriers[q] ≠ none) : s.emptyPlace = some p := by
  unfold State.emptyPlace
  cases hfind : allPlaces.find? fun p => s.carriers[p].isNone with
  | none =>
    have := List.find?_eq_none.mp hfind p (List.mem_finRange p)
    rw [hp] at this
    exact absurd rfl this
  | some q =>
    obtain ⟨hq, before, after, hplaces, hbefore⟩ := List.find?_eq_some_iff_append.mp hfind
    have hsorted : (before ++ q :: after).Pairwise (· < ·) := hplaces ▸ List.pairwise_lt_finRange 32
    have hmem : p ∈ before ++ q :: after := hplaces ▸ List.mem_finRange p
    rcases List.mem_append.mp hmem with h | h
    · have := hbefore p h
      rw [hp] at this
      cases this
    · rcases List.mem_cons.mp h with h | h
      · rw [h]
      · have hlt := List.rel_of_pairwise_cons (List.pairwise_append.mp hsorted).2.1 h
        exact absurd (Option.isNone_iff_eq_none.mp hq) (hlow q hlt)

theorem State.emptyPlace_eq_none {s : State} (h : ∀ q : Fin 32, s.carriers[q] ≠ none) : s.emptyPlace = none :=
  List.find?_eq_none.mpr fun q _ hq => h q (Option.isNone_iff_eq_none.mp hq)

/-! ## The oldest STALE entry (R86) -/

/-- A place holds a STALE entry of some age. -/
def State.StaleAt (s : State) (p : Fin 32) (age : Nat) : Prop :=
  ∃ e, s.carriers[p] = some e ∧ e.band = .stale ∧ e.age = age

/-- A place is the best to evict among some: the oldest STALE entry's, the lowest-numbered among equal ages (R86). -/
def State.BestOf (s : State) (seen : List (Fin 32)) : Option (Fin 32) → Prop
  | none => ∀ q ∈ seen, ∀ age, ¬ s.StaleAt q age
  | some b => ∃ age, s.StaleAt b age ∧ ∀ q ∈ seen, ∀ a, s.StaleAt q a → a < age ∨ a = age ∧ b ≤ q

theorem State.StaleAt.unique {s : State} {p : Fin 32} {a b : Nat} (ha : s.StaleAt p a) (hb : s.StaleAt p b) : a = b := by
  obtain ⟨e, he, -, rfl⟩ := ha
  obtain ⟨f, hf, -, rfl⟩ := hb
  rw [he] at hf
  cases hf
  rfl

/-- One place more: it is better than the best so far when it is older. -/
theorem State.olderStale_best {s : State} {seen : List (Fin 32)} {best : Option (Fin 32)} (h : s.BestOf seen best) {p : Fin 32}
    (hp : ∀ q ∈ seen, q < p) (hb : ∀ b ∈ best, b ∈ seen) : s.BestOf (seen ++ [p]) (s.olderStale best p) := by
  have skip : (∀ age, ¬ s.StaleAt p age) → s.BestOf (seen ++ [p]) best := by
    intro hno
    cases best with
    | none =>
      intro q hq
      rcases List.mem_append.mp hq with hq | hq
      · exact h q hq
      · rw [List.mem_singleton.mp hq]; exact hno
    | some b =>
      obtain ⟨age, hage, hall⟩ := h
      refine ⟨age, hage, fun q hq a ha => ?_⟩
      rcases List.mem_append.mp hq with hq | hq
      · exact hall q hq a ha
      · rw [List.mem_singleton.mp hq] at ha; exact absurd ha (hno a)
  unfold State.olderStale
  cases he : s.carriers[p] with
  | none => exact skip fun age ⟨e, h, _⟩ => by rw [he] at h; cases h
  | some e =>
    cases hband : e.band with
    | fresh =>
      dsimp only
      rw [if_pos hband]
      refine skip fun age ⟨f, h, hf, _⟩ => ?_
      rw [he] at h; cases h; rw [hband] at hf; cases hf
    | stale =>
      have hstale : s.StaleAt p e.age := ⟨e, he, hband, rfl⟩
      dsimp only
      rw [if_neg (by simp [hband])]
      cases best with
      | none =>
        refine ⟨e.age, hstale, fun q hq a ha => ?_⟩
        rcases List.mem_append.mp hq with hq | hq
        · exact absurd ha (h q hq a)
        · rw [List.mem_singleton.mp hq] at ha ⊢
          exact .inr ⟨ha.unique hstale, Nat.le_refl _⟩
      | some b =>
        obtain ⟨age, hage, hall⟩ := h
        obtain ⟨f, hf, hfb, hfa⟩ := hage
        dsimp only
        rw [hf]
        dsimp only
        split
        · rename_i hlt
          refine ⟨e.age, hstale, fun q hq a ha => ?_⟩
          rcases List.mem_append.mp hq with hq | hq
          · have := hall q hq a ha
            left; omega
          · rw [List.mem_singleton.mp hq] at ha ⊢
            exact .inr ⟨ha.unique hstale, Nat.le_refl _⟩
        · rename_i hnot
          refine ⟨age, ⟨f, hf, hfb, hfa⟩, fun q hq a ha => ?_⟩
          rcases List.mem_append.mp hq with hq | hq
          · exact hall q hq a ha
          · rw [List.mem_singleton.mp hq] at ha ⊢
            have := ha.unique hstale
            have := hp b (hb b rfl)
            by_cases heq : e.age = age
            · exact .inr ⟨by omega, Nat.le_of_lt this⟩
            · left; omega

theorem State.olderStale_mem {s : State} {seen : List (Fin 32)} {best : Option (Fin 32)} (hb : ∀ b ∈ best, b ∈ seen) (p : Fin 32) :
    ∀ b ∈ s.olderStale best p, b ∈ seen ++ [p] := by
  intro b hbp
  have hcases : s.olderStale best p = best ∨ s.olderStale best p = some p := by
    unfold State.olderStale
    split
    · exact .inl rfl
    · split
      · exact .inl rfl
      · split
        · exact .inr rfl
        · split
          · split
            · exact .inr rfl
            · exact .inl rfl
          · exact .inr rfl
  rcases hcases with h | h <;> rw [h] at hbp
  · exact List.mem_append.mpr (.inl (hb b hbp))
  · cases hbp
    exact List.mem_append.mpr (.inr (List.mem_singleton.mpr rfl))

/-- The place to evict is the best of all (R86). -/
theorem State.stalePlace_best (s : State) : s.BestOf allPlaces s.stalePlace := by
  have hfold : ∀ (rest seen : List (Fin 32)) (best : Option (Fin 32)), (seen ++ rest).Pairwise (· < ·) → s.BestOf seen best →
      (∀ b ∈ best, b ∈ seen) → s.BestOf (seen ++ rest) (rest.foldl s.olderStale best) := by
    intro rest
    induction rest with
    | nil => intro seen best _ h _; rw [List.append_nil]; exact h
    | cons p rest ih =>
      intro seen best hsorted h hb
      have hlt : ∀ q ∈ seen, q < p := fun q hq =>
        (List.pairwise_append.mp hsorted).2.2 q hq p List.mem_cons_self
      rw [List.append_cons] at hsorted ⊢
      exact ih _ _ hsorted (State.olderStale_best h hlt hb) (State.olderStale_mem hb p)
  refine hfold allPlaces [] none ?_ (fun q hq => (nomatch hq)) fun b hb => (nomatch hb)
  exact List.pairwise_lt_finRange 32

theorem State.stalePlace_eq_some {s : State} {p : Fin 32} {age : Nat} (hp : s.StaleAt p age)
    (hbest : ∀ q a, s.StaleAt q a → a < age ∨ a = age ∧ p ≤ q) : s.stalePlace = some p := by
  have hall := s.stalePlace_best
  cases h : s.stalePlace with
  | none => rw [h] at hall; exact absurd hp (hall p (List.mem_finRange p) age)
  | some b =>
    rw [h] at hall
    obtain ⟨a, ha, hle⟩ := hall
    have h1 := hle p (List.mem_finRange p) age hp
    have h2 := hbest b a ha
    have : b = p := Fin.le_antisymm (by omega) (by omega)
    rw [this]

theorem State.stalePlace_eq_none {s : State} (h : ∀ q a, ¬ s.StaleAt q a) : s.stalePlace = none := by
  have hall := s.stalePlace_best
  cases hp : s.stalePlace with
  | none => rfl
  | some b =>
    rw [hp] at hall
    obtain ⟨a, ha, -⟩ := hall
    exact absurd ha (h b a)

/-! ## STOCK (R85, R86) -/

section

variable {s : State} {station : Nat} {i : Slot} {p : Fin 32} {e : CarrierEntry} (holding : Nat) (uncertain : Bool)

theorem State.placeHolding_held (hp : s.placeOf station i = some p) (he : s.carriers[p] = some e) :
    s.placeHolding station i holding uncertain =
      (s.setCarrier p (some { e with holding := holding, uncertain := uncertain }),
        if e.holding = holding ∧ e.uncertain = uncertain then [] else [i]) := by
  unfold State.placeHolding
  rw [hp]
  dsimp only
  rw [he]

theorem State.placeHolding_empty (hno : s.placeOf station i = none) (hp : s.emptyPlace = some p) :
    s.placeHolding station i holding uncertain =
      (s.setCarrier p (some { station := station, slot := i, holding := holding, uncertain := uncertain, age := 0,
                              band := .fresh }), [i]) := by
  unfold State.placeHolding
  rw [hno, hp]

theorem State.placeHolding_evicting (hno : s.placeOf station i = none) (hfull : s.emptyPlace = none)
    (hp : s.stalePlace = some p) (he : s.carriers[p] = some e) : s.placeHolding station i holding uncertain =
      (s.setCarrier p (some { station := station, slot := i, holding := holding, uncertain := uncertain, age := 0,
                              band := .fresh }), [i, e.slot]) := by
  unfold State.placeHolding
  rw [hno, hfull, hp]
  dsimp only
  rw [he]
  rfl

theorem State.placeHolding_ignored (hno : s.placeOf station i = none) (hfull : s.emptyPlace = none)
    (hp : s.stalePlace = none) : s.placeHolding station i holding uncertain = (s, []) := by
  unfold State.placeHolding
  rw [hno, hfull, hp]

end

theorem State.takeStock_idle {s : State} {station : Byte} {article : Article} {holding : BitVec 16} {flags : Byte}
    (h : station = s.ownStation ∨ ¬ (1 ≤ station.toNat ∧ station.toNat ≤ 120) ∨
      articleSlot s.running article.toNat = none) : s.takeStock station article holding flags = (s, []) := by
  unfold State.takeStock
  rw [← validStation_iff, Bool.not_eq_true, ← or_assoc] at h
  by_cases hno : station = s.ownStation ∨ validStation station.toNat = false
  · exact if_pos hno
  · rw [if_neg hno, h.resolve_left hno]

theorem State.takeStock_placed {s : State} {station : Byte} {article : Article} {holding : BitVec 16} {flags : Byte} {i : Slot}
    (hpeer : station ≠ s.ownStation) (hvalid : 1 ≤ station.toNat ∧ station.toNat ≤ 120)
    (h : articleSlot s.running article.toNat = some i) : s.takeStock station article holding flags =
      s.placeHolding station.toNat i holding.toNat (flags.getLsbD 0) := by
  unfold State.takeStock
  rw [if_neg (by rw [not_or, Bool.not_eq_false, validStation_iff]; exact ⟨hpeer, hvalid⟩), h]

/-- A carrier entry after a frame of a station (R83). -/
def CarrierEntry.refreshedBy (station : Nat) (e : CarrierEntry) : CarrierEntry :=
  if e.station = station then { e with age := 0, band := .fresh } else e

theorem State.delivered_carrier (s : State) (station : Nat) (link : Link) (q : Fin 32) :
    (s.delivered station link).carriers[q] = s.carriers[q].map (CarrierEntry.refreshedBy station) := by
  rw [s.delivered_refreshed station link q]
  cases s.carriers[q] with
  | none => rfl
  | some e =>
    unfold CarrierEntry.refreshedBy
    exact (apply_ite some _ _ _).symm

theorem CarrierEntry.refreshedBy_name (station : Nat) (e : CarrierEntry) :
    (e.refreshedBy station).station = e.station ∧ (e.refreshedBy station).slot = e.slot ∧
      (e.refreshedBy station).holding = e.holding ∧ (e.refreshedBy station).uncertain = e.uncertain := by
  unfold CarrierEntry.refreshedBy
  split <;> exact ⟨rfl, rfl, rfl, rfl⟩

/-- After the refresh the STALE entries are those of the other stations that were STALE before (R83). -/
theorem State.delivered_staleAt (s : State) (station : Nat) (link : Link) (q : Fin 32) (age : Nat) :
    (s.delivered station link).StaleAt q age ↔
      ∃ e, s.carriers[q] = some e ∧ e.band = .stale ∧ e.station ≠ station ∧ e.age = age := by
  unfold State.StaleAt
  rw [s.delivered_carrier station link q]
  cases hq : s.carriers[q] with
  | none => simp
  | some e =>
    rw [Option.map_some]
    by_cases hst : e.station = station <;> simp [CarrierEntry.refreshedBy, hst]

theorem State.delivered_carrier_none (s : State) (station : Nat) (link : Link) (q : Fin 32) :
    (s.delivered station link).carriers[q] = none ↔ s.carriers[q] = none := by
  rw [s.delivered_carrier station link q]
  exact Option.map_eq_none_iff

theorem State.delivered_placeOf {s : State} (hs : CarriersSound s) {station : Nat} {i : Slot} (link : Link) {p : Fin 32}
    {e : CarrierEntry} (he : s.carriers[p] = some e) (hst : e.station = station) (hi : e.slot = i) :
    (s.delivered station link).placeOf station i = some p := by
  have hp : (s.delivered station link).carriers[p] = some (e.refreshedBy station) := by
    rw [s.delivered_carrier station link p, he]
    rfl
  obtain ⟨hname, hslot, -, -⟩ := CarrierEntry.refreshedBy_name station e
  cases h : (s.delivered station link).placeOf station i with
  | none => exact absurd ⟨hname.trans hst, hslot.trans hi⟩ (State.placeOf_none h p _ hp)
  | some q =>
    obtain ⟨f, hf, hfst, hfi⟩ := State.placeOf_some h
    rw [s.delivered_carrier station link q] at hf
    obtain ⟨x, hx, rfl⟩ := Option.map_eq_some_iff.mp hf
    obtain ⟨hxname, hxslot, -, -⟩ := CarrierEntry.refreshedBy_name station x
    rw [hxname] at hfst
    rw [hxslot] at hfi
    rw [hs.single q p x e hx he (hfst.trans hst.symm) (hfi.trans hi.symm)]

theorem State.delivered_placeOf_none {s : State} {station : Nat} {i : Slot} (link : Link)
    (h : ∀ (p : Fin 32) (e : CarrierEntry), s.carriers[p] = some e → ¬ (e.station = station ∧ e.slot = i)) :
    (s.delivered station link).placeOf station i = none := by
  cases hp : (s.delivered station link).placeOf station i with
  | none => rfl
  | some q =>
    obtain ⟨f, hf, hfst, hfi⟩ := State.placeOf_some hp
    rw [s.delivered_carrier station link q] at hf
    obtain ⟨x, hx, rfl⟩ := Option.map_eq_some_iff.mp hf
    obtain ⟨hxname, hxslot, -, -⟩ := CarrierEntry.refreshedBy_name station x
    exact absurd ⟨hxname.symm.trans hfst, hxslot.symm.trans hfi⟩ (h q x hx)

theorem State.setCarrier_frame (s : State) (p : Fin 32) (e : Option CarrierEntry) :
    s.setCarrier p e = { s with carriers := (s.setCarrier p e).carriers } := rfl

/-- Settles O37: by the place that the frame's entry takes. -/
theorem stockReceptionPlacesEntry : Obligations.StockReceptionPlacesEntry := by
  intro s station article holding flags frame hframe
  subst hframe
  refine ⟨fun link hown => refreshOnly_of_idle (.own link hown) (State.takeStock_idle (.inl hown.station)),
    fun hout => refreshOnly_of_idle hout.delivers (State.takeStock_idle (.inr (.inl fun h => ?_))), fun hpeer hs => ?_⟩
  · rcases hout.outside with h0 | h0 <;> simp only at h0 <;> omega
  have hd := hpeer.delivers
  have hcarrier := s.delivered_carrier station.toNat
    (s.link.received { station := station, payload := .stock article holding flags })
  cases hslot : articleSlot s.running article.toNat with
  | none =>
    exact ⟨_, _, _, next_of_delivers hd (State.takeStock_idle (.inr (.inr hslot))), rfl, fun _ => ⟨hcarrier, s.mem_owedBy_nil _⟩,
      fun i entry h => (nomatch h), rfl⟩
  | some i =>
    have htake := State.takeStock_placed (s := s.delivered station.toNat (s.link.received
      { station := station, payload := .stock article holding flags })) (holding := holding) (flags := flags)
      hpeer.peer hpeer.valid hslot
    have hothers : ∀ (p q : Fin 32) (entry : CarrierEntry), q ≠ p →
        ((s.delivered station.toNat (s.link.received { station := station, payload := .stock article holding flags })).setCarrier
          p (some entry)).carriers[q] = s.carriers[q].map (CarrierEntry.refreshedBy station.toNat) :=
      fun p q entry hq => (State.setCarrier_get_of_ne _ _ hq).trans (hcarrier q)
    by_cases hheld : ∃ (p : Fin 32) (e : CarrierEntry), s.carriers[p] = some e ∧ e.station = station.toNat ∧ e.slot = i
    · obtain ⟨p, e, he, hst, hi⟩ := hheld
      have hplace := State.delivered_placeOf hs (s.link.received { station := station, payload := .stock article holding flags })
        he hst hi
      have hentry := (hcarrier p).trans (congrArg (Option.map _) he)
      refine ⟨_, _, _, next_of_delivers hd (htake.trans (State.placeHolding_held _ _ hplace hentry)), rfl, fun h => (nomatch h),
        fun j entry hj hnew => ?_, State.setCarrier_frame _ _ _⟩
      cases hj
      subst hnew
      refine ⟨fun q x hx hxst hxi => ?_, fun hno => absurd ⟨hst, hi⟩ (hno p e he)⟩
      obtain rfl : q = p := hs.single q p x e hx he (hxst.trans hst.symm) (hxi.trans hi.symm)
      obtain rfl : x = e := Option.some.inj (hx.symm.trans he)
      obtain ⟨-, -, hholding, huncertain⟩ := CarrierEntry.refreshedBy_name station.toNat x
      refine ⟨?_, fun r hr => hothers q r _ hr, fun j => ?_⟩
      · rw [State.setCarrier_get_self]
        unfold CarrierEntry.refreshedBy
        rw [if_pos hst, ← hst, ← hi]
      · rw [State.mem_owedBy_append, hholding, huncertain]
        refine or_congr_right ?_
        split
        · rename_i hsame
          simp [hsame.1, hsame.2]
        · rename_i hdiffers
          rw [List.mem_singleton]
          exact (and_iff_left (Classical.not_and_iff_not_or_not.mp hdiffers)).symm
    · have hno : ∀ (p : Fin 32) (e : CarrierEntry), s.carriers[p] = some e → ¬ (e.station = station.toNat ∧ e.slot = i) :=
        fun p e he h => hheld ⟨p, e, he, h⟩
      have hplace := State.delivered_placeOf_none
        (s.link.received { station := station, payload := .stock article holding flags }) hno
      have hname : ∀ {P : Fin 32 → CarrierEntry → Prop} (p : Fin 32) (e : CarrierEntry), s.carriers[p] = some e →
          e.station = station.toNat → e.slot = i → P p e := fun p e he hst hi => absurd ⟨hst, hi⟩ (hno p e he)
      cases hfirst : (s.delivered station.toNat (s.link.received
          { station := station, payload := .stock article holding flags })).emptyPlace with
      | some p =>
        refine ⟨_, _, _, next_of_delivers hd (htake.trans (State.placeHolding_empty _ _ hplace hfirst)), rfl,
          fun h => (nomatch h), fun j entry hj hnew => ?_, State.setCarrier_frame _ _ _⟩
        cases hj
        subst hnew
        refine ⟨hname, fun _ => ⟨fun q hq hqlow => ?_, fun hfull => ?_⟩⟩
        · obtain rfl : p = q := Option.some.inj (hfirst.symm.trans (State.emptyPlace_eq_some
            ((s.delivered_carrier_none _ _ q).mpr hq) fun r hr h => hqlow r hr ((s.delivered_carrier_none _ _ r).mp h)))
          exact ⟨State.setCarrier_get_self _ _ _, fun r hr => hothers p r _ hr, fun j => by
            rw [State.mem_owedBy_append, List.mem_singleton]⟩
        · have := State.emptyPlace_eq_none (s := s.delivered station.toNat (s.link.received
            { station := station, payload := .stock article holding flags }))
            fun q h => hfull q ((s.delivered_carrier_none _ _ q).mp h)
          rw [hfirst] at this
          cases this
      | none =>
        have hused : ∀ q : Fin 32, s.carriers[q] ≠ none := fun q hq => by
          have := List.find?_eq_none.mp hfirst q (List.mem_finRange q)
          exact this (Option.isNone_iff_eq_none.mpr ((s.delivered_carrier_none _ _ q).mpr hq))
        cases hstale : (s.delivered station.toNat (s.link.received
            { station := station, payload := .stock article holding flags })).stalePlace with
        | some p =>
          have hbest := State.stalePlace_best (s.delivered station.toNat (s.link.received
            { station := station, payload := .stock article holding flags }))
          rw [hstale] at hbest
          obtain ⟨age, hage, -⟩ := hbest
          obtain ⟨x, hx, hxband, hxst, -⟩ := (s.delivered_staleAt _ _ p age).mp hage
          have hentry := (hcarrier p).trans (congrArg (Option.map _) hx)
          refine ⟨_, _, _, next_of_delivers hd (htake.trans (State.placeHolding_evicting _ _ hplace hfirst hstale hentry)), rfl,
            fun h => (nomatch h), fun j entry hj hnew => ?_, State.setCarrier_frame _ _ _⟩
          cases hj
          subst hnew
          refine ⟨hname, fun _ => ⟨fun q hq => absurd hq (hused q), fun _ => ⟨fun q e he heband hest hmax => ?_, fun hfresh => ?_⟩⟩⟩
          · obtain rfl : p = q := Option.some.inj (hstale.symm.trans (State.stalePlace_eq_some
              ((s.delivered_staleAt _ _ q _).mpr ⟨e, he, heband, hest, rfl⟩) fun r a hr => by
                obtain ⟨f, hf, hfband, hfst, rfl⟩ := (s.delivered_staleAt _ _ r a).mp hr
                exact hmax r f hf hfband hfst))
            obtain rfl : x = e := Option.some.inj (hx.symm.trans he)
            refine ⟨State.setCarrier_get_self _ _ _, fun r hr => hothers p r _ hr, fun j => ?_⟩
            rw [State.mem_owedBy_append, (CarrierEntry.refreshedBy_name station.toNat x).2.1]
            simp
          · rw [hfresh p x hx hxst] at hxband
            cases hxband
        | none =>
          refine ⟨_, _, _, next_of_delivers hd (htake.trans (State.placeHolding_ignored _ _ hplace hfirst hstale)), rfl,
            fun h => (nomatch h), fun j entry hj hnew => ?_, rfl⟩
          cases hj
          refine ⟨hname, fun _ => ⟨fun q hq => absurd hq (hused q), fun _ => ⟨fun q e he heband hest _ => ?_, fun _ => ?_⟩⟩⟩
          · have hbest := State.stalePlace_best (s.delivered station.toNat (s.link.received
              { station := station, payload := .stock article holding flags }))
            rw [hstale] at hbest
            exact absurd ((s.delivered_staleAt _ _ q _).mpr ⟨e, he, heband, hest, rfl⟩)
              (hbest q (List.mem_finRange q) _)
          · exact ⟨hcarrier, s.mem_owedBy_nil _⟩

end Sys2Proof.Machine
end

section
/-! Movements at the matcher (sections 4.2 and 4.4). -/

namespace Sys2Proof.Machine

open Sys2Proof.Config

theorem State.removePending_requests (s : State) (e : PendingOut) (cls : OutClass) :
    (s.removePending e cls).queue.requests = if e.status = .sent then s.queue.requests
      else s.queue.requests.filter fun r => decide (r.key ≠ .offer e.tag) := by
  rw [State.removePending_eq]
  dsimp only
  split
  · rfl
  · rw [State.withdraw_eq]

/-- A removed entry's OFFER leaves room for as many CLAIMs as before (R62, R142). -/
theorem State.removePending_claimRoom {s : State} (e : PendingOut) (cls : OutClass) (h : s.claimRoom = true) :
    (s.removePending e cls).claimRoom = true := by
  have hle : claimsHeld (s.removePending e cls).queue.requests ≤ claimsHeld s.queue.requests := by
    rw [State.removePending_requests]
    split
    · exact Nat.le_refl _
    · exact List.filter_sublist.countP_le
  unfold State.claimRoom at *
  rw [decide_eq_true_eq] at *
  omega

theorem State.mem_placeClaim (s : State) (station : Nat) (tag : Byte) (type : ClaimType) :
    .claim station tag ∈ (s.placeClaim station tag type).queue.requests.map Request.key := by
  rw [State.placeClaim_requests, placeIn_keys]
  split
  · assumption
  · exact List.mem_append.mpr (.inr (List.mem_singleton.mpr rfl))

theorem State.cancelOffer_frame (s : State) (e : PendingOut) (type : ClaimType) : s.cancelOffer e type =
    { s with queue := { s.queue with requests := (s.cancelOffer e type).queue.requests } } := by
  unfold State.cancelOffer
  split <;> rfl

/-! ## A decrease (R56, R57) -/

theorem State.handMovement_decrease (s : State) (l : Lane) {n : Nat} (h : 0 < n) : s.handMovement l (-(n : Int)) =
    (s.evictPending.1.createPending (movementOf s.running l n), s.evictPending.2) := by
  unfold State.handMovement
  rw [if_pos (by omega), Int.natAbs_neg, Int.natAbs_natCast]

theorem State.evictPending_full {s : State} {e : PendingOut} {rest : List PendingOut} (h : s.matcher.pendingOut = e :: rest)
    (h8 : 8 ≤ (e :: rest).length) : s.evictPending = (s.removePending e .pick, s.slotsFor e.article) := by
  unfold State.evictPending
  rw [h]
  exact if_pos h8

/-- Of sound lists the oldest own entry leaves alone (R57). -/
theorem ListsSound.oldest_removed {s : State} (hs : ListsSound s) {e : PendingOut} {rest : List PendingOut}
    (h : s.matcher.pendingOut = e :: rest) (cls : OutClass) : (s.removePending e cls).matcher.pendingOut = rest := by
  have htags := hs.tags
  rw [h, List.map_cons, List.nodup_cons] at htags
  rw [State.removePending_eq]
  dsimp only
  rw [h, List.filter_cons_of_neg (by simp)]
  refine List.filter_eq_self.mpr fun x hx => decide_eq_true fun hxe => ?_
  exact htags.1 (List.mem_map.mpr ⟨x, hx, hxe⟩)

/-! ## A rise (R69, R70) -/

theorem State.handMovement_rise (s : State) (l : Lane) (n : Nat) :
    s.handMovement l (n : Int) = (s.matchRise (movementOf s.running l n), []) := by
  unfold State.handMovement
  rw [if_neg (by omega), Int.natAbs_natCast]

section

variable {s : State} {m : Movement}

/-- A rise matched with an own entry (R69). -/
theorem State.matchRise_own {e : PendingOut}
    (h : s.matcher.pendingOut.find? (fun e => decide (e.article = m.article) && decide (e.count = m.cases)) = some e) :
    s.matchRise m =
      ((s.removePending e .relocatedOut).setTallies m.lane (Tallies.addMatchedIn m.cases)).cancelOffer e .relocation := by
  unfold State.matchRise
  rw [h]

theorem no_own_match (h : ∀ e ∈ s.matcher.pendingOut, ¬ (e.article = m.article ∧ e.count = m.cases)) :
    s.matcher.pendingOut.find? (fun e => decide (e.article = m.article) && decide (e.count = m.cases)) = none :=
  List.find?_eq_none.mpr fun e he => by simpa using h e he

/-- A rise matched with a heard offer, which is claimed when there is room (R70). -/
theorem State.matchRise_heard {e : HeardOffer}
    (hown : ∀ e ∈ s.matcher.pendingOut, ¬ (e.article = m.article ∧ e.count = m.cases))
    (h : s.matcher.heard.find? (fun e => decide (e.article = m.article) && decide (e.count = m.cases) &&
      decide (e.claimStatus = .none)) = some e) : s.matchRise m =
        if s.claimRoom = true then
          (s.claimHeard e .relocation (some m.lane)).setTallies m.lane (Tallies.addMatchedIn m.cases)
        else s.setTallies m.lane (Tallies.addRestockIn m.cases) := by
  unfold State.matchRise
  rw [no_own_match hown]
  dsimp only
  rw [h]

/-- A rise matched with nothing is a restock (R70). -/
theorem State.matchRise_restock (hown : ∀ e ∈ s.matcher.pendingOut, ¬ (e.article = m.article ∧ e.count = m.cases))
    (h : ∀ e ∈ s.matcher.heard, ¬ (e.article = m.article ∧ e.count = m.cases ∧ e.claimStatus = .none)) :
    s.matchRise m = s.setTallies m.lane (Tallies.addRestockIn m.cases) := by
  have hnone : s.matcher.heard.find? (fun e => decide (e.article = m.article) && decide (e.count = m.cases) &&
      decide (e.claimStatus = .none)) = none :=
    List.find?_eq_none.mpr fun e he => by simpa [and_assoc] using h e he
  unfold State.matchRise
  rw [no_own_match hown]
  dsimp only
  rw [hnone]

end

theorem State.setTallies_tallies (s : State) (l : Lane) (f : Tallies → Tallies) :
    ((s.setTallies l f).lane l).counting.tallies = f (s.lane l).counting.tallies := by
  rw [State.setTallies_lane_self]

/-- Settles O31: a decrease with a full list, and a rise by what it is matched with. -/
theorem movementsReachTheMatcher : Obligations.MovementsReachTheMatcher := by
  intro s l n m hs hn hm
  subst hm
  rw [State.handMovement_decrease s l hn, State.handMovement_rise]
  refine ⟨fun e rest h h7 => ?_, fun e h => ?_, fun hown => ⟨fun e h => ⟨fun hroom => ?_, fun hroom => ?_⟩, fun h => ?_⟩⟩
  · rw [State.evictPending_full h (by simp [h7])]
    refine ⟨_, congrArg (· ++ _) (hs.lists.oldest_removed h .pick), rfl, rfl, rfl, ?_⟩
    exact congrArg (fun u : LaneUnit => u.counting.tallies.picks) (s.removePending_lane_self e .pick)
  · rw [State.matchRise_own h]
    have hother : ∀ f : Tallies → Tallies, (∀ t, (f t).relocatedOut = t.relocatedOut) →
        (((s.removePending e .relocatedOut).setTallies l f).lane e.lane).counting.tallies.relocatedOut =
          ((s.removePending e .relocatedOut).lane e.lane).counting.tallies.relocatedOut := by
      intro f hf
      by_cases hl : e.lane = l
      · subst hl
        rw [State.setTallies_tallies, hf]
      · rw [State.setTallies_lane_of_ne _ f hl]
    have hmatched : ((s.removePending e .relocatedOut).lane l).counting.tallies.matchedIn =
        (s.lane l).counting.tallies.matchedIn := by
      by_cases hl : l = e.lane
      · subst hl
        rw [State.removePending_lane_self]
        rfl
      · rw [State.removePending_lane_of_ne _ _ _ hl]
    refine ⟨?_, ?_, ?_, ?_, fun hq => ?_, fun hq hroom => ?_⟩
    · rw [State.cancelOffer_frame]
      show (s.removePending e .relocatedOut).matcher.pendingOut = _
      rw [State.removePending_eq]
    · rw [State.cancelOffer_frame]
      show (s.removePending e .relocatedOut).matcher.heard = _
      rw [State.removePending_eq]
    · rw [State.cancelOffer_frame, ← hmatched]
      exact congrArg Tallies.matchedIn ((s.removePending e .relocatedOut).setTallies_tallies l _)
    · rw [State.cancelOffer_frame]
      refine (hother (Tallies.addMatchedIn n) fun _ => rfl).trans ?_
      rw [State.removePending_lane_self]
      rfl
    · unfold State.cancelOffer
      rw [if_neg (by simp [hq])]
      refine (s.removePending_requests e .relocatedOut).trans (if_neg (by simp [hq]))
    · unfold State.cancelOffer
      rw [if_pos ⟨hq, State.removePending_claimRoom e .relocatedOut hroom⟩]
      have hrunning : (s.removePending e .relocatedOut).running = s.running := by rw [State.removePending_eq]
      rw [← hrunning]
      exact State.mem_placeClaim _ _ _ _
  · rw [State.matchRise_heard hown h, if_pos hroom]
    exact ⟨rfl, State.mem_placeClaim s _ _ _, State.setTallies_tallies _ l _⟩
  · rw [State.matchRise_heard hown h, if_neg (by simp [hroom])]
    exact ⟨rfl, rfl, State.setTallies_tallies _ l _⟩
  · rw [State.matchRise_restock hown h]
    exact ⟨rfl, rfl, State.setTallies_tallies _ l _⟩

end Sys2Proof.Machine
end

section
/-! Sample events (sections 1.3 to 1.5): the sample record, its discard or its receiver, and the front end's part of what a
sample brings about. -/

namespace Sys2Proof.Machine

open Sys2Proof.Config

/-! ## No rule but the front end's reads the front end in an evaluation -/

/-- The state with another front end. -/
def State.withFront (s : State) (f : FrontEnd) : State := { s with frontEnd := f }

theorem State.changeAlert_withFront (s : State) (f : FrontEnd) (i : Slot) (u : SlotUnit) (request : Bool) :
    (s.withFront f).changeAlert i u request = (s.changeAlert i u request).withFront f := by
  rw [State.changeAlert_eq, State.changeAlert_eq]
  by_cases h : u.alert = (s.slot i).alert
  · rw [if_pos h, if_pos (show u.alert = ((s.withFront f).slot i).alert from h)]
    cases request <;> rfl
  · rw [if_neg h, if_neg (show ¬ u.alert = ((s.withFront f).slot i).alert from h)]
    cases request <;> rfl

theorem State.evaluate_withFront (s : State) (f : FrontEnd) (i : Slot) :
    (s.withFront f).evaluate i = (s.evaluate i).withFront f := by
  unfold State.evaluate
  by_cases h : s.settlingIn = .ended
  · rw [if_pos h, if_pos (show (s.withFront f).settlingIn = .ended from h)]
    exact s.changeAlert_withFront f i _ _
  · rw [if_neg h, if_neg (show ¬ (s.withFront f).settlingIn = .ended from h)]

theorem State.evaluateAll_withFront (s : State) (f : FrontEnd) (owed : List Slot) :
    (s.withFront f).evaluateAll owed = (s.evaluateAll owed).withFront f := by
  unfold State.evaluateAll
  generalize allSlots.filter (fun i => owed.contains i) = is
  induction is generalizing s with
  | nil => rfl
  | cons i is ih => rw [List.foldl_cons, List.foldl_cons, State.evaluate_withFront, ih]

theorem State.evaluateAll_lane (s : State) (owed : List Slot) (l : Lane) :
    ((s.evaluateAll owed).lane l).settler = (s.lane l).settler := by rw [(s.evaluateAll_evaluated owed).lanes l]

theorem State.evaluate_lane (s : State) (i : Slot) (l : Lane) : ((s.evaluate i).lane l).settler = (s.lane l).settler := by
  rw [(s.evaluate_evaluated i).lanes l]

/-! ## The front end's part of a change of one lane's state (R7, R8) -/

theorem State.quiet_congr {s t : State} (hr : t.running = s.running)
    (hl : ∀ l, (t.lane l).settler.state = (s.lane l).settler.state) : t.quiet = s.quiet := by
  unfold State.quiet
  rw [hr]
  simp only [hl]

theorem State.settleFrontEnd_congr {s before other : State}
    (h : ∀ l, (before.lane l).settler.state = (other.lane l).settler.state) : s.settleFrontEnd before = s.settleFrontEnd other := by
  have hstates : before.laneStates = other.laneStates := (State.laneStates_eq_iff before other).mpr h
  have hleft : before.leftRest s = other.leftRest s := by
    unfold State.leftRest
    simp only [h]
  unfold State.settleFrontEnd
  rw [hstates, hleft]

theorem State.testQuiet_run {s : State} (hn : s.startUp.node = .run) : s.testQuiet = { s with frontEnd := { s.frontEnd with
    quietTimer := if s.quiet = true then
        (if s.frontEnd.quietTimer = .stopped then .running 120000000 else s.frontEnd.quietTimer) else .stopped } } := by
  unfold State.testQuiet
  rw [if_pos hn]
  cases h : s.frontEnd.quietTimer <;> simp [Timer.isRunning, sec]

/-- The front end after a lane has left STABLE or FAULT: FAST, and the quiet timer from its start or STOPPED (R7, R8). -/
def FrontEnd.afterLeaving (f : FrontEnd) (quiet : Bool) : FrontEnd :=
  { f with
    mode := .fast
    roundTimer := if f.mode = .fast then f.roundTimer else .running (20000 - f.sinceRound)
    quietTimer := if quiet = true then .running 120000000 else .stopped }

/-- One lane has left STABLE or FAULT. -/
theorem State.settleFrontEnd_leaving {s before : State} {l : Lane} (hn : s.startUp.node = .run)
    (hl : (s.lane l).settler.state ≠ (before.lane l).settler.state)
    (hrest : (before.lane l).settler.state = some .stable ∨ (before.lane l).settler.state = some .fault) :
    s.settleFrontEnd before = s.withFront (s.frontEnd.afterLeaving s.quiet) := by
  rw [State.settleFrontEnd_of_left ((State.leftRest_iff before s).mpr ⟨l, hrest, hl⟩), State.enterFast_eq,
    State.testQuiet_run]
  · rfl
  · exact hn

/-- One lane has changed its state, from another than STABLE or FAULT. -/
theorem State.settleFrontEnd_moving {s before : State} {l : Lane} (hn : s.startUp.node = .run)
    (hl : (s.lane l).settler.state ≠ (before.lane l).settler.state)
    (hothers : ∀ m, m ≠ l → (s.lane m).settler.state = (before.lane m).settler.state)
    (hrest : ¬ ((before.lane l).settler.state = some .stable ∨ (before.lane l).settler.state = some .fault)) :
    s.settleFrontEnd before = s.withFront { s.frontEnd with
      quietTimer := if s.quiet = true then
          (if s.frontEnd.quietTimer = .stopped then .running 120000000 else s.frontEnd.quietTimer) else .stopped } := by
  rw [State.settleFrontEnd_of_moved hl, State.testQuiet_run hn]
  · rfl
  · refine Bool.eq_false_iff.mpr fun h => ?_
    obtain ⟨m, hm, hne⟩ := (State.leftRest_iff before s).mp h
    by_cases hml : m = l
    · exact hrest (hml ▸ hm)
    · exact hne (hothers m hml)

/-! ## The sample record (R3, R4) -/

/-- A lane that has taken a sample: its last sample, and no earlier zero offset remembered (R3, R4). -/
def LaneUnit.sampled (u : LaneUnit) (x : Sample) : LaneUnit :=
  { u with lastSample := x, counting := { u.counting with priorOffset := none } }

/-- The state in which a sample record is handed on (R3, R6). -/
def State.taken (s : State) (l : Lane) (x : Sample) : State :=
  State.setLane { s with frontEnd := s.frontEnd.converted } l ((s.lane l).sampled x)

theorem exec_sampleEvent_not {s : State} {l : Lane} (code : BitVec 24) (first : Bool) (h : s.conversionDue l = false) :
    exec (.sampleEvent l code first) s = .next s :=
  congrArg Host.Outcome.next (if_neg (by simp [h]))

theorem exec_sampleEvent {s : State} {l : Lane} (code : BitVec 24) (first : Bool) (h : Converts s l) {x : Sample}
    (hx : x = sampleOf (laneOf s.config l) ((s.lane l).counting.arithmeticOffset first) code) :
    exec (.sampleEvent l code first) s = .next (if 0 < (s.lane l).warmUp then
      State.setLane { s with frontEnd := s.frontEnd.converted } l
        { (s.lane l).sampled x with warmUp := (s.lane l).warmUp - 1 }
      else (s.taken l x).handOn l x) := by
  subst hx
  exact congrArg Host.Outcome.next (if_pos (State.conversionDue_of_converts h))

theorem State.taken_lane_self (s : State) (l : Lane) (x : Sample) : (s.taken l x).lane l = (s.lane l).sampled x :=
  State.setLane_lane_self _ l _

theorem State.taken_lane_of_ne (s : State) {l m : Lane} (x : Sample) (h : m ≠ l) : (s.taken l x).lane m = s.lane m :=
  State.setLane_lane_of_ne _ _ h

/-- The lanes' last samples are the same. -/
def SameSamples (s t : State) : Prop := ∀ l, (t.lane l).lastSample = (s.lane l).lastSample

theorem SameSamples.refl (s : State) : SameSamples s s := fun _ => rfl

theorem SameSamples.trans {s t u : State} (h : SameSamples s t) (g : SameSamples t u) : SameSamples s u :=
  fun l => (g l).trans (h l)

theorem SameSamples.of_indicator {s t : State} (h : ∀ l, SameButIndicator (s.lane l) (t.lane l)) : SameSamples s t :=
  fun l => by rw [h l]

theorem SameSamples.of_tallies {s t : State} (h : ∀ l, SameButTallies (s.lane l) (t.lane l)) : SameSamples s t :=
  fun l => by rw [h l]

theorem State.setLane_samples (s : State) (l : Lane) {u : LaneUnit} (h : u.lastSample = (s.lane l).lastSample) :
    SameSamples s (s.setLane l u) := by
  intro m
  by_cases hm : m = l
  · subst hm; rw [State.setLane_lane_self, h]
  · rw [State.setLane_lane_of_ne s u hm]

theorem State.changeNotice_samples (s : State) (l : Lane) (f : LaneNotice → LaneNotice) : SameSamples s (s.changeNotice l f) := by
  intro m
  by_cases hm : m = l
  · subst hm; rw [State.changeNotice_lane_self]
  · rw [State.changeNotice_lane_of_ne s f hm]

theorem State.settleFrontEnd_samples (s before : State) : SameSamples s (s.settleFrontEnd before) :=
  fun l => by rw [State.settleFrontEnd_lane]

/-! ## The matcher's work changes tallies alone (R52) -/

theorem State.evictPending_sameButTallies (s : State) (l : Lane) : SameButTallies (s.lane l) (s.evictPending.1.lane l) := by
  unfold State.evictPending
  split
  · split
    · exact s.removePending_sameButTallies _ _ l
    · exact SameButTallies.refl _
  · exact SameButTallies.refl _

theorem State.cancelOffer_lane (s : State) (e : PendingOut) (type : ClaimType) (l : Lane) :
    (s.cancelOffer e type).lane l = s.lane l := by
  rw [State.cancelOffer_frame]
  rfl

theorem State.matchRise_sameButTallies (s : State) (m : Movement) (l : Lane) :
    SameButTallies (s.lane l) ((s.matchRise m).lane l) := by
  unfold State.matchRise
  split
  · rw [State.cancelOffer_lane]
    exact (s.removePending_sameButTallies _ _ l).trans (State.setTallies_sameButTallies _ _ _ l)
  · split
    · split
      · exact State.setTallies_sameButTallies (s.claimHeard _ _ _) _ _ l
      · exact s.setTallies_sameButTallies _ _ l
    · exact s.setTallies_sameButTallies _ _ l

theorem State.handMovement_sameButTallies (s : State) (l : Lane) (delta : Int) (m : Lane) :
    SameButTallies (s.lane m) ((s.handMovement l delta).1.lane m) := by
  unfold State.handMovement
  dsimp only
  split
  · exact s.evictPending_sameButTallies m
  · exact s.matchRise_sameButTallies _ m

theorem State.dealWithMatch_sameButTallies (s : State) (m : ForeignMatch) (l : Lane) :
    SameButTallies (s.lane l) ((s.dealWithMatch m).1.lane l) := by
  unfold State.dealWithMatch
  split
  · dsimp only
    rw [State.cancelOffer_lane]
    exact s.removePending_sameButTallies _ _ l
  · dsimp only
    split <;> exact SameButTallies.refl _

/-! ## A settle event leaves the last samples (R36, R39) -/

theorem State.reportLane_lanes (s : State) (l : Lane) : (s.reportLane l).1.lanes = s.lanes := by
  unfold State.reportLane State.reportSlot State.placeStock
  split
  · dsimp only
    split <;> rfl
  · rfl

theorem State.reportLane_lane (s : State) (l m : Lane) : (s.reportLane l).1.lane m = s.lane m :=
  congrArg (fun v : Vector LaneUnit 4 => v[m.idx]) (s.reportLane_lanes l)

theorem State.reportLane_samples (s : State) (l : Lane) : SameSamples s (s.reportLane l).1 :=
  fun m => by rw [State.reportLane_lane]

theorem State.setCounting_samples (s : State) (l : Lane) (c : CountUnit) : SameSamples s (s.setCounting l c) :=
  s.setLane_samples l rfl

theorem State.applyCount_samples (s : State) (l : Lane) (f : Figures) : SameSamples s (s.applyCount l f) := by
  unfold State.applyCount
  dsimp only
  split
  · exact s.setCounting_samples l _
  · exact (s.setCounting_samples l _).trans (State.changeNotice_samples _ l _)

theorem State.testZero_samples (s : State) (l : Lane) (filtered : Int) (f : Figures) : SameSamples s (s.testZero l filtered f) := by
  unfold State.testZero State.trackZero
  split
  · dsimp only
    split
    · exact SameSamples.refl s
    · exact s.setLane_samples l rfl
  · exact SameSamples.refl s

theorem State.evaluateAll_samples (s : State) (owed : List Slot) : SameSamples s (s.evaluateAll owed) :=
  .of_indicator (s.evaluateAll_evaluated owed).lanes

theorem State.setForeign_samples (s : State) (l : Lane) (r : Option ForeignRecord) : SameSamples s (s.setForeign l r) := by
  unfold State.setForeign
  refine SameSamples.trans ?_ (State.changeNotice_samples _ l _)
  exact s.setLane_samples l rfl

theorem State.countSettle_samples (s : State) (l : Lane) (filtered : Int) (f : Figures) :
    SameSamples s (s.countSettle l filtered f) := by
  unfold State.countSettle
  dsimp only
  refine SameSamples.trans ?_ (State.evaluateAll_samples _ _)
  have hcounted : ∀ report, SameSamples s (((s.applyCount l f).testZero l filtered f).setReport l report) := fun report =>
    ((s.applyCount_samples l f).trans (State.testZero_samples _ l filtered f)).trans (State.setCounting_samples _ l _)
  split <;> split
  · exact hcounted _
  · exact (hcounted _).trans (State.reportLane_samples _ l)
  · exact (hcounted _).trans (.of_tallies (State.handMovement_sameButTallies _ l _))
  · exact ((hcounted _).trans (.of_tallies (State.handMovement_sameButTallies _ l _))).trans
      (State.reportLane_samples _ l)

theorem State.countUnit_samples (s : State) (l : Lane) (filtered previous : Int) (known : Bool) :
    SameSamples s (s.countUnit l filtered previous known) := by
  unfold State.countUnit
  dsimp only
  split
  · unfold State.firstSettle
    dsimp only
    exact ((((s.applyCount_samples l _).trans (State.testZero_samples _ l filtered _)).trans
      (State.setCounting_samples _ l _)).trans (State.reportLane_samples _ l)).trans (State.evaluateAll_samples _ _)
  · split
    · exact (s.setForeign_samples l none).trans (State.setCounting_samples _ l _)
    · split
      · split
        · unfold State.takeForeign
          dsimp only
          exact (((s.setForeign_samples l _).trans (State.setCounting_samples _ l _)).trans
            (State.setCounting_samples _ l _)).trans ((SameSamples.of_tallies (State.dealWithMatch_sameButTallies _ _)).trans
              (State.evaluateAll_samples _ _))
        · exact s.countSettle_samples l filtered _
      · exact s.countSettle_samples l filtered _

theorem State.setSettler_samples (s : State) (l : Lane) (t : Settler) : SameSamples s (s.setSettler l t) :=
  s.setLane_samples l rfl

theorem State.settleEvent_samples (s : State) (l : Lane) : SameSamples s (s.settleEvent l) :=
  (s.setSettler_samples l _).trans (State.countUnit_samples _ l _ _ _)

theorem State.rederiveUncertain_samples (s : State) (l : Lane) : SameSamples s (s.rederiveUncertain l) := by
  unfold State.rederiveUncertain State.placeStock
  split
  · dsimp only
    split
    · exact SameSamples.refl s
    · refine SameSamples.trans ?_ (.of_indicator (State.evaluate_evaluated _ _).lanes)
      split <;> exact SameSamples.refl s
  · exact SameSamples.refl s

theorem State.handOn_samples (s : State) (l : Lane) (x : Sample) : SameSamples s (s.handOn l x) := by
  have hcapture : (s.captureSample l x).lanes = s.lanes := by
    unfold State.captureSample State.failCapture State.completeCapture
    split
    · rfl
    · split
      · rfl
      · split
        · split <;> rfl
        · dsimp only
          split
          · split
            · rfl
            · split <;> rfl
          · rfl
  unfold State.handOn
  split
  · unfold State.settleSample
    split
    · exact SameSamples.refl s
    · dsimp only
      rename_i r _
      refine SameSamples.trans ?_ (State.settleFrontEnd_samples _ s)
      refine (s.setSettler_samples l ((s.lane l).settler.take (laneOf s.running l) r)).trans ?_
      have hfault : ∀ (u : State) (fault : Bool), SameSamples u (u.faultChanged l fault) := fun u fault =>
        (u.changeNotice_samples l _).trans (State.rederiveUncertain_samples _ l)
      split
      · exact State.settleEvent_samples _ l
      · split
        · exact hfault _ _
        · split
          · exact hfault _ _
          · exact SameSamples.refl _
  · exact fun m => congrArg (fun v : Vector LaneUnit 4 => v[m.idx].lastSample) hcapture
  · exact SameSamples.refl s

theorem sampleOf_saturated (r : LaneRecord) (o : Int) (code : BitVec 24) :
    (code.toInt = 8388607 → sampleOf r o code = { raw := code.toInt, cls := .over, grams := none }) ∧
    (code.toInt = -8388608 → sampleOf r o code = { raw := code.toInt, cls := .under, grams := none }) := by
  unfold sampleOf
  refine ⟨fun h => if_pos h, fun h => ?_⟩
  rw [h]
  rfl

/-- Settles O22: the record that the sample event makes, and the record of each code. -/
theorem gramSampleRule : Obligations.GramSampleRule := by
  intro s l code first hc
  refine ⟨_, _, exec_sampleEvent code first hc rfl, rfl, ?_, fun m hm => ?_, fun hrest hn => ?_, fun r o => ?_⟩
  · split
    · rw [State.setLane_lane_self]
      rfl
    · rw [State.handOn_samples _ l _ l, State.taken_lane_self]
      rfl
  · split
    · rw [State.setLane_lane_of_ne _ _ hm]
      rfl
    · rw [State.handOn_samples _ l _ m, State.taken_lane_of_ne _ _ hm]
  · have hcleared := (hrest (by simp [hn])).counts l
    cases first <;> simp [hcleared, CountUnit.cleared]
  · obtain ⟨hover, hunder⟩ := sampleOf_saturated r o code
    refine ⟨sampleOf_raw r o code, hover, hunder, fun h1 h2 => ⟨fun hspan => ?_, fun hspan => ?_⟩⟩
    · unfold sampleOf
      simp [h1, h2, hspan]
    · refine ⟨roundDiv ((code.toInt - r.zeroCode) * (r.span : Int)) 65536, roundDiv_rounds _ _ (by omega),
        fun h => ?_, fun h => ?_, fun h3 h4 => ?_⟩ <;> unfold sampleOf gramsOf <;> dsimp only <;>
        rw [if_neg h1, if_neg h2, if_neg (by simp [hspan])]
      · exact if_pos h
      · rw [if_neg (by omega)]
        exact if_pos h
      · rw [if_neg (by omega)]
        exact if_neg (by omega)

end Sys2Proof.Machine
end

section
/-! What a sample brings about beside the settle event (sections 1.5, 2.5, 5.2 and 6.5): the sample that changes its
settler alone, and a lane's entry into FAULT or exit from it. -/

namespace Sys2Proof.Machine

open Sys2Proof.Config

/-! ## The lane's sample in the settler (R6, R20) -/

theorem State.setLane_setLane (s : State) (l : Lane) (u v : LaneUnit) : (s.setLane l u).setLane l v = s.setLane l v := by
  unfold State.setLane
  simp

/-- The lane with its sample and its settler after it, the front end as before (R6, R20). -/
def State.settledTo (s : State) (l : Lane) (x : Sample) (after : Settler) : State :=
  s.setLane l { (s.lane l).sampled x with settler := after }

theorem State.taken_setSettler (s : State) (l : Lane) (x : Sample) (after : Settler) :
    (s.taken l x).setSettler l after = (s.settledTo l x after).withFront s.frontEnd.converted := by
  have hset : (s.taken l x).setSettler l after =
      (s.taken l x).setLane l { (s.lane l).sampled x with settler := after } := by
    unfold State.setSettler
    rw [State.taken_lane_self]
  rw [hset]
  exact State.setLane_setLane { s with frontEnd := s.frontEnd.converted } l _ _

theorem State.settledTo_lane_self (s : State) (l : Lane) (x : Sample) (after : Settler) :
    (s.settledTo l x after).lane l = { (s.lane l).sampled x with settler := after } := s.setLane_lane_self l _

theorem State.settledTo_lane_of_ne (s : State) {l m : Lane} (x : Sample) (after : Settler) (h : m ≠ l) :
    (s.settledTo l x after).lane m = s.lane m := s.setLane_lane_of_ne _ h

/-- A sample in RUN past warm-up goes to its lane's settler (R5, R6). -/
theorem exec_sampleEvent_run {s : State} {l : Lane} (code : BitVec 24) (first : Bool) (h : Converts s l) {x : Sample}
    (hx : x = sampleOf (laneOf s.config l) ((s.lane l).counting.arithmeticOffset first) code)
    (hw : (s.lane l).warmUp = 0) (hn : s.startUp.node = .run) {r : Reading} (hr : readingOf x = some r) {after : Settler}
    (ha : after = (s.lane l).settler.take (laneOf s.running l) r) :
    exec (.sampleEvent l code first) s = .next (State.settleFrontEnd
      (if after.settles (laneOf s.running l) then ((s.taken l x).setSettler l after).settleEvent l
      else if after.state = some .fault ∧ (s.lane l).settler.state ≠ some .fault then
        ((s.taken l x).setSettler l after).faultChanged l true
      else if after.state ≠ some .fault ∧ (s.lane l).settler.state = some .fault then
        ((s.taken l x).setSettler l after).faultChanged l false
      else (s.taken l x).setSettler l after) (s.taken l x)) := by
  have hrun : (s.taken l x).startUp.node = .run := hn
  have hsettler : ((s.taken l x).lane l).settler = (s.lane l).settler := by
    rw [State.taken_lane_self]
    rfl
  rw [exec_sampleEvent code first h hx, if_neg (by omega)]
  refine congrArg Host.Outcome.next ?_
  unfold State.handOn State.settleSample
  rw [hrun, hr]
  dsimp only
  rw [hsettler, show (s.taken l x).running = s.running from rfl, ← ha]

/-! ## Entry into FAULT and exit from it (R34, R82) -/

theorem uncertainOf_iff {s : State} {l : Lane} {i : Slot} (h : articleSlot s.running (articleOfLane s.running l) = some i) :
    UncertainOf s l (s.uncertainOf i) := by
  unfold UncertainOf State.uncertainOf lanesOfSlot enabledLanes SharesArticle
  rw [articleSlot_article h]
  simp only [List.any_eq_true, List.mem_filter, decide_eq_true_eq, Bool.or_eq_true]
  exact ⟨fun ⟨m, ⟨⟨_, he⟩, ha⟩, hu⟩ => ⟨m, ⟨he, ha⟩, hu⟩, fun ⟨m, ⟨he, ha⟩, hu⟩ => ⟨m, ⟨⟨mem_allLanes m, he⟩, ha⟩, hu⟩⟩

theorem exists_uncertainOf (s : State) (l : Lane) : ∃ uncertain, UncertainOf s l uncertain := by
  classical
  exact ⟨decide _, decide_eq_true_iff⟩

theorem State.changeNotice_withFront (s : State) (f : FrontEnd) (l : Lane) (flags : LaneNotice → LaneNotice) :
    (s.withFront f).changeNotice l flags = (s.changeNotice l flags).withFront f := rfl

theorem State.placeStock_withFront (s : State) (f : FrontEnd) (i : Slot) (due : Bool) :
    (s.withFront f).placeStock i due = (s.placeStock i due).withFront f := by
  cases due <;> rfl

theorem State.rederiveUncertain_withFront (s : State) (f : FrontEnd) (l : Lane) :
    (s.withFront f).rederiveUncertain l = (s.rederiveUncertain l).withFront f := by
  unfold State.rederiveUncertain
  rw [show (s.withFront f).running = s.running from rfl]
  cases articleSlot s.running (articleOfLane s.running l) with
  | none => rfl
  | some i =>
    dsimp only
    by_cases h : (s.slot i).uncertain = s.uncertainOf i
    · rw [if_pos h, if_pos (show ((s.withFront f).slot i).uncertain = (s.withFront f).uncertainOf i from h)]
    · rw [if_neg h, if_neg (show ¬ ((s.withFront f).slot i).uncertain = (s.withFront f).uncertainOf i from h),
        ← State.evaluate_withFront, ← State.placeStock_withFront]
      rfl

theorem State.rederiveUncertain_lane (s : State) (l m : Lane) :
    ((s.rederiveUncertain l).lane m).settler = (s.lane m).settler := by
  unfold State.rederiveUncertain
  split
  · dsimp only
    split
    · rfl
    · rw [State.evaluate_lane]
      unfold State.placeStock
      split <;> rfl
  · rfl

theorem State.changeNotice_settler (s : State) (l : Lane) (f : LaneNotice → LaneNotice) (m : Lane) :
    ((s.changeNotice l f).lane m).settler = (s.lane m).settler := by
  by_cases hm : m = l
  · subst hm; rw [State.changeNotice_lane_self]
  · rw [State.changeNotice_lane_of_ne _ _ hm]

/-- What a change of a lane's FAULT does to the uncertain flag of its article's slot (R34, R82). -/
theorem State.rederiveUncertain_spec (q : State) (l : Lane) : ∃ uncertain, UncertainOf q l uncertain ∧
    (∀ i, articleSlot q.running (articleOfLane q.running l) = some i →
      (uncertain = (q.slot i).uncertain → q.rederiveUncertain l = q) ∧
      (uncertain ≠ (q.slot i).uncertain → ∃ r : State,
        r.slot i = { q.slot i with uncertain := uncertain } ∧ (∀ j, j ≠ i → r.slot j = q.slot j) ∧
        r = { q with
          slots := r.slots
          queue := if (q.slot i).ready = true then (q.place (.stock i)).queue else q.queue } ∧
        q.rederiveUncertain l = r.evaluate i)) ∧
    (articleSlot q.running (articleOfLane q.running l) = none → q.rederiveUncertain l = q) := by
  unfold State.rederiveUncertain
  cases hslot : articleSlot q.running (articleOfLane q.running l) with
  | none =>
    obtain ⟨u, hu⟩ := exists_uncertainOf q l
    exact ⟨u, hu, fun i hi => by simp at hi, fun _ => rfl⟩
  | some i =>
    refine ⟨q.uncertainOf i, uncertainOf_iff hslot, fun j hj => ?_, fun h => by simp at h⟩
    obtain rfl : i = j := by simpa using hj
    refine ⟨fun h => if_pos h.symm, fun h =>
      ⟨(q.setSlot i { q.slot i with uncertain := q.uncertainOf i }).placeStock i (q.slot i).ready, ?_, fun j hj => ?_, ?_,
        if_neg fun g => h g.symm⟩⟩
    · cases (q.slot i).ready <;> exact q.setSlot_slot_self i _
    · cases (q.slot i).ready <;> exact q.setSlot_slot_of_ne _ hj
    · cases (q.slot i).ready <;> rfl

/-- The front end after a sample that has changed its lane's state (R1, R7, R8). -/
def FrontEnd.afterSample (f : FrontEnd) (before : Option LaneState) (quiet : Bool) : FrontEnd :=
  if before = some .stable ∨ before = some .fault then f.converted.afterLeaving quiet else f.afterChange quiet

theorem State.settleFrontEnd_sample {s before : State} {l : Lane} {f : FrontEnd} (hn : s.startUp.node = .run)
    (hl : (s.lane l).settler.state ≠ (before.lane l).settler.state)
    (hothers : ∀ m, m ≠ l → (s.lane m).settler.state = (before.lane m).settler.state) :
    (s.withFront f.converted).settleFrontEnd before =
      s.withFront (f.afterSample (before.lane l).settler.state s.quiet) := by
  unfold FrontEnd.afterSample
  by_cases hrest : (before.lane l).settler.state = some .stable ∨ (before.lane l).settler.state = some .fault
  · rw [if_pos hrest]
    exact State.settleFrontEnd_leaving (s := s.withFront f.converted) hn hl hrest
  · rw [if_neg hrest]
    exact State.settleFrontEnd_moving (s := s.withFront f.converted) hn hl hothers hrest

/-- A sample that takes its lane into FAULT or out of it (R32 to R34). -/
theorem exec_sampleEvent_fault {s : State} {l : Lane} (code : BitVec 24) (first : Bool) (h : Converts s l) {x : Sample}
    (hx : x = sampleOf (laneOf s.config l) ((s.lane l).counting.arithmeticOffset first) code)
    (hw : (s.lane l).warmUp = 0) (hn : s.startUp.node = .run) {r : Reading} (hr : readingOf x = some r) {after : Settler}
    (ha : after = (s.lane l).settler.take (laneOf s.running l) r) (hs : after.settles (laneOf s.running l) = false)
    {fault : Bool} (hafter : after.state = some .fault ↔ fault = true)
    (hbefore : (s.lane l).settler.state = some .fault ↔ fault = false) {q : State}
    (hq : q = (s.settledTo l x after).changeNotice l fun n => { n with fault := fault }) :
    exec (.sampleEvent l code first) s = .next ((q.rederiveUncertain l).withFront
      (s.frontEnd.afterSample (s.lane l).settler.state q.quiet)) := by
  have hbranch : (if after.settles (laneOf s.running l) then ((s.taken l x).setSettler l after).settleEvent l
      else if after.state = some .fault ∧ (s.lane l).settler.state ≠ some .fault then
        ((s.taken l x).setSettler l after).faultChanged l true
      else if after.state ≠ some .fault ∧ (s.lane l).settler.state = some .fault then
        ((s.taken l x).setSettler l after).faultChanged l false
      else (s.taken l x).setSettler l after) = (q.rederiveUncertain l).withFront s.frontEnd.converted := by
    rw [if_neg (by simp [hs]), State.taken_setSettler, hq, ← State.rederiveUncertain_withFront,
      ← State.changeNotice_withFront]
    cases fault with
    | true => exact if_pos ⟨hafter.mpr rfl, fun g => by simpa using hbefore.mp g⟩
    | false =>
      rw [if_neg fun g => by simpa using hafter.mp g.1]
      exact if_pos ⟨fun g => by simpa using hafter.mp g, hbefore.mpr rfl⟩
  have hsettler : ∀ m, ((q.rederiveUncertain l).lane m).settler = ((s.settledTo l x after).lane m).settler := fun m => by
    rw [State.rederiveUncertain_lane, hq, State.changeNotice_settler]
  have htaken : ∀ m, ((s.taken l x).lane m).settler = (s.lane m).settler := fun m => by
    by_cases hm : m = l
    · subst hm; rw [State.taken_lane_self]; rfl
    · rw [State.taken_lane_of_ne _ _ hm]
  have hkeeps := q.rederiveUncertain_keeps (own := none) l
  have hnode : (q.rederiveUncertain l).startUp.node = .run := by
    rw [hkeeps.startUp, hq]
    exact hn
  rw [exec_sampleEvent_run code first h hx hw hn hr ha, hbranch, State.settleFrontEnd_sample (l := l) hnode]
  · rw [htaken]
    refine congrArg (fun b => Host.Outcome.next ((q.rederiveUncertain l).withFront (s.frontEnd.afterSample _ b))) ?_
    exact State.quiet_congr hkeeps.running fun m => congrArg Settler.state (q.rederiveUncertain_lane l m)
  · rw [hsettler, htaken, State.settledTo_lane_self]
    cases fault with
    | true => exact fun g => by simpa using hbefore.mp (g ▸ hafter.mpr rfl)
    | false => exact fun g => by simpa using hafter.mp (g.trans (hbefore.mpr rfl))
  · intro m hm
    rw [hsettler, htaken, State.settledTo_lane_of_ne _ _ _ hm]

/-- A sample that brings about no settle event and no change of FAULT (R20 to R24, R31). -/
theorem exec_sampleEvent_settler {s : State} {l : Lane} (code : BitVec 24) (first : Bool) (h : Converts s l) {x : Sample}
    (hx : x = sampleOf (laneOf s.config l) ((s.lane l).counting.arithmeticOffset first) code)
    (hw : (s.lane l).warmUp = 0) (hn : s.startUp.node = .run) {r : Reading} (hr : readingOf x = some r) {after : Settler}
    (ha : after = (s.lane l).settler.take (laneOf s.running l) r) (hs : after.settles (laneOf s.running l) = false)
    (hfault : after.state = some .fault ↔ (s.lane l).settler.state = some .fault) :
    exec (.sampleEvent l code first) s =
      .next (((s.settledTo l x after).withFront s.frontEnd.converted).settleFrontEnd (s.taken l x)) := by
  rw [exec_sampleEvent_run code first h hx hw hn hr ha, if_neg (by simp [hs]), if_neg fun g => g.2 (hfault.mp g.1),
    if_neg fun g => g.1 (hfault.mpr g.2), State.taken_setSettler]

theorem State.taken_settler (s : State) (l : Lane) (x : Sample) (m : Lane) :
    ((s.taken l x).lane m).settler = (s.lane m).settler := by
  by_cases hm : m = l
  · subst hm; rw [State.taken_lane_self]; rfl
  · rw [State.taken_lane_of_ne _ _ hm]

/-- Settles O23. -/
theorem sampleEventHandsOn : Obligations.SampleEventHandsOn := by
  intro s l code first
  refine ⟨exec_sampleEvent_not code first, fun hc x hx taken htaken => ⟨fun hw => ?_, fun hw hn hcap => ?_,
    fun r after hw hn hr ha hs => ⟨fun hfault => ?_, fun fault hafter hbefore => ?_⟩⟩⟩ <;> subst htaken
  · refine ⟨_, (exec_sampleEvent code first hc hx).trans (congrArg Host.Outcome.next (if_pos hw)), ?_, fun m hm => ?_, rfl⟩
    · exact State.setLane_lane_self _ l _
    · exact State.setLane_lane_of_ne _ _ hm
  · refine ⟨s.taken l x, ?_, s.taken_lane_self l x, fun m hm => s.taken_lane_of_ne x hm, rfl⟩
    rw [exec_sampleEvent code first hc hx, if_neg (by omega)]
    refine congrArg Host.Outcome.next ?_
    unfold State.handOn State.captureSample
    rw [show (s.taken l x).startUp.node = .configuring from hn, show (s.taken l x).port = s.port from rfl]
    cases hp : s.port.capture with
    | none => rfl
    | some c => exact if_pos fun g => hcap (by rw [hp, ← g]; rfl)
  · refine ⟨_, exec_sampleEvent_settler code first hc hx hw hn hr ha hs hfault, ?_, fun m hm => ?_, fun hsame => ?_,
      fun hstable hmoving => ?_, ?_⟩
    · rw [State.settleFrontEnd_lane]
      exact s.settledTo_lane_self l x after
    · rw [State.settleFrontEnd_lane]
      exact s.settledTo_lane_of_ne x after hm
    · rw [State.settleFrontEnd_of_same]
      · rfl
      · intro m
        rw [State.taken_settler]
        by_cases hm : m = l
        · subst hm
          exact (congrArg (fun u : LaneUnit => u.settler.state) (s.settledTo_lane_self m x after)).trans hsame
        · exact congrArg (fun u : LaneUnit => u.settler.state) (s.settledTo_lane_of_ne x after hm)
    · rw [State.settleFrontEnd_sample (l := l) (s := s.settledTo l x after) hn, State.taken_settler, hstable]
      · refine ⟨rfl, fun he => ?_⟩
        have hquiet : (s.settledTo l x after).quiet = false :=
          State.quiet_eq_false (l := l) he (by rw [State.settledTo_lane_self]; simp [hmoving])
        rw [hquiet]
        rfl
      · rw [State.taken_settler, State.settledTo_lane_self, hstable]
        simp [hmoving]
      · intro m hm
        rw [State.taken_settler, State.settledTo_lane_of_ne _ _ _ hm]
    · rw [State.settleFrontEnd_frame]
      rfl
  · obtain ⟨uncertain, hu, hsome, hnone⟩ := State.rederiveUncertain_spec
      ((s.settledTo l x after).changeNotice l fun n => { n with fault := fault }) l
    refine ⟨_, _, uncertain, exec_sampleEvent_fault code first hc hx hw hn hr ha hs hafter hbefore rfl, ?_,
      fun m hm => ?_, rfl, hu, fun i hi => ⟨fun hsame => ?_, fun hne => ?_⟩, fun hi => ?_, rfl⟩
    · rw [State.changeNotice_lane_self, State.settledTo_lane_self]
      rfl
    · rw [State.changeNotice_lane_of_ne _ _ hm, State.settledTo_lane_of_ne _ _ _ hm]
    · rw [(hsome i hi).1 hsame]
      rfl
    · obtain ⟨r', hslot, hothers, hframe, heval⟩ := (hsome i hi).2 hne
      refine ⟨r', hslot, hothers, hframe, ?_⟩
      rw [heval]
      rfl
    · rw [hnone hi]
      rfl

end Sys2Proof.Machine
end

section
/-! The settle of a lane (sections 3.2 to 3.8): the sample that brings it about, its count, and its report to the stock
view. -/

namespace Sys2Proof.Machine

open Sys2Proof.Config

/-! ## The front end has no part in the count unit's work -/

section

variable (s : State) (f : FrontEnd) (l : Lane)

theorem State.applyCount_withFront (g : Figures) : (s.withFront f).applyCount l g = (s.applyCount l g).withFront f := by
  unfold State.applyCount
  dsimp only
  rw [apply_ite (fun u : State => u.withFront f)]
  rfl

theorem State.testZero_withFront (filtered : Int) (g : Figures) :
    (s.withFront f).testZero l filtered g = (s.testZero l filtered g).withFront f := by
  unfold State.testZero State.trackZero
  dsimp only
  rw [apply_ite (fun u : State => u.withFront f), apply_ite (fun u : State => u.withFront f)]
  rfl

theorem State.setReport_withFront (r : SettleReport) :
    (s.withFront f).setReport l r = (s.setReport l r).withFront f := rfl

theorem State.reportLane_withFront : (s.withFront f).reportLane l = ((s.reportLane l).1.withFront f, (s.reportLane l).2) := by
  unfold State.reportLane
  rw [show (s.withFront f).running = s.running from rfl]
  cases articleSlot s.running (articleOfLane s.running l) with
  | none => rfl
  | some i =>
    dsimp only
    unfold State.reportSlot
    dsimp only
    rw [← State.placeStock_withFront]
    rfl

theorem State.placeClaim_withFront (station : Nat) (tag : Byte) (type : ClaimType) :
    (s.withFront f).placeClaim station tag type = (s.placeClaim station tag type).withFront f := rfl

theorem State.removePending_withFront (e : PendingOut) (cls : OutClass) :
    (s.withFront f).removePending e cls = (s.removePending e cls).withFront f := by
  unfold State.removePending
  dsimp only
  rw [apply_ite (fun u : State => u.withFront f)]
  rfl

theorem State.cancelOffer_withFront (e : PendingOut) (type : ClaimType) :
    (s.withFront f).cancelOffer e type = (s.cancelOffer e type).withFront f := by
  unfold State.cancelOffer
  rw [apply_ite (fun u : State => u.withFront f)]
  rfl

theorem State.evictPending_withFront : (s.withFront f).evictPending = (s.evictPending.1.withFront f, s.evictPending.2) := by
  unfold State.evictPending
  rw [show (s.withFront f).matcher = s.matcher from rfl]
  split
  · rw [State.removePending_withFront]
    split <;> rfl
  · rfl

theorem State.matchRise_withFront (m : Movement) : (s.withFront f).matchRise m = (s.matchRise m).withFront f := by
  unfold State.matchRise
  rw [show (s.withFront f).matcher = s.matcher from rfl]
  split
  · rw [State.removePending_withFront, ← State.cancelOffer_withFront]
    rfl
  · split
    · rw [apply_ite (fun u : State => u.withFront f)]
      rfl
    · rfl

theorem State.handMovement_withFront (delta : Int) :
    (s.withFront f).handMovement l delta = ((s.handMovement l delta).1.withFront f, (s.handMovement l delta).2) := by
  unfold State.handMovement
  dsimp only
  rw [State.evictPending_withFront, State.matchRise_withFront]
  split <;> rfl

theorem State.dealWithMatch_withFront (m : ForeignMatch) :
    (s.withFront f).dealWithMatch m = ((s.dealWithMatch m).1.withFront f, (s.dealWithMatch m).2) := by
  cases m with
  | own e =>
    unfold State.dealWithMatch
    dsimp only
    rw [State.removePending_withFront, State.cancelOffer_withFront]
    rfl
  | heard e =>
    unfold State.dealWithMatch
    dsimp only
    rw [apply_ite (fun u : State => u.withFront f)]
    rfl

/-- The settle's count, doubt counter, AUDIT and zero offset, with its report (R44, R48, R49, R53). -/
def State.counted (filtered : Int) (g : Figures) (r : SettleReport) : State :=
  ((s.applyCount l g).testZero l filtered g).setReport l r

theorem State.counted_withFront (filtered : Int) (g : Figures) (r : SettleReport) :
    (s.withFront f).counted l filtered g r = (s.counted l filtered g r).withFront f := by
  unfold State.counted
  rw [State.applyCount_withFront, State.testZero_withFront, State.setReport_withFront]

theorem State.firstSettle_withFront (filtered : Int) :
    (s.withFront f).firstSettle l filtered = (s.firstSettle l filtered).withFront f := by
  unfold State.firstSettle
  dsimp only
  rw [State.applyCount_withFront, State.testZero_withFront, State.setReport_withFront, State.reportLane_withFront,
    State.evaluateAll_withFront]
  rfl

theorem State.setForeign_withFront (r : Option ForeignRecord) :
    (s.withFront f).setForeign l r = (s.setForeign l r).withFront f := rfl

theorem State.setTallies_withFront (g : Tallies → Tallies) :
    (s.withFront f).setTallies l g = (s.setTallies l g).withFront f := rfl

/-- The lane with its foreign record set, FOREIGN-SEEN raised and its report (R47, R53). -/
def State.foreignSet (r : ForeignRecord) (report : SettleReport) : State :=
  ((s.setForeign l (some r)).setTallies l Tallies.addForeignSeen).setReport l report

theorem State.takeForeign_eq (filtered delta : Int) (g : Figures) (m : ForeignMatch) :
    s.takeForeign l filtered delta g m =
      ((s.foreignSet l (m.record s.running.station delta) (SettleReport.ofFigures .foreignSet filtered g)).dealWithMatch
        m).1.evaluateAll
      ((s.foreignSet l (m.record s.running.station delta) (SettleReport.ofFigures .foreignSet filtered g)).dealWithMatch
        m).2 := rfl

theorem State.foreignSet_withFront (r : ForeignRecord) (report : SettleReport) :
    (s.withFront f).foreignSet l r report = (s.foreignSet l r report).withFront f := by
  unfold State.foreignSet
  rw [State.setForeign_withFront, State.setTallies_withFront, State.setReport_withFront]

theorem State.takeForeign_withFront (filtered delta : Int) (g : Figures) (m : ForeignMatch) :
    (s.withFront f).takeForeign l filtered delta g m = (s.takeForeign l filtered delta g m).withFront f := by
  rw [State.takeForeign_eq, State.takeForeign_eq, State.foreignSet_withFront, State.dealWithMatch_withFront,
    State.evaluateAll_withFront]
  rfl

/-- A counted settle's movement handed to the matcher and its report made, with the evaluations that they owe (R50, R51). -/
def State.moveAndReport (delta : Int) (audit : Bool) : State × List Slot :=
  let moved := if delta = 0 then (s, []) else s.handMovement l delta
  let reported := if delta = 0 ∧ (moved.1.lane l).counting.audit = audit then (moved.1, []) else moved.1.reportLane l
  (reported.1, moved.2 ++ reported.2)

theorem State.moveAndReport_withFront (delta : Int) (audit : Bool) : (s.withFront f).moveAndReport l delta audit =
    ((s.moveAndReport l delta audit).1.withFront f, (s.moveAndReport l delta audit).2) := by
  unfold State.moveAndReport
  by_cases hd : delta = 0
  · simp only [hd, if_true, true_and]
    rw [State.reportLane_withFront]
    by_cases ha : (s.lane l).counting.audit = audit
    · rw [if_pos ha, if_pos (show ((s.withFront f).lane l).counting.audit = audit from ha)]
    · rw [if_neg ha, if_neg (show ¬ ((s.withFront f).lane l).counting.audit = audit from ha)]
  · simp only [hd, if_false, false_and]
    rw [State.handMovement_withFront]
    dsimp only
    rw [State.reportLane_withFront]

/-- The cases moved at a settle of so many (R44). -/
def State.casesMoved (g : Figures) : Int := (g.n : Int) - ((s.lane l).counting.count : Int)

/-- The report of a counted settle of a lane (R53). -/
def State.reportOf (filtered : Int) (g : Figures) : SettleReport :=
  countedReport filtered (s.casesMoved l g) g (tracksZero (laneOf s.running l) g (s.lane l).foreign.isSome)

theorem State.countSettle_eq (filtered : Int) (g : Figures) : s.countSettle l filtered g =
    ((s.counted l filtered g (s.reportOf l filtered g)).moveAndReport l (s.casesMoved l g)
      (s.lane l).counting.audit).1.evaluateAll
    ((s.counted l filtered g (s.reportOf l filtered g)).moveAndReport l (s.casesMoved l g)
      (s.lane l).counting.audit).2 := rfl

theorem State.countSettle_withFront (filtered : Int) (g : Figures) :
    (s.withFront f).countSettle l filtered g = (s.countSettle l filtered g).withFront f := by
  rw [State.countSettle_eq, State.countSettle_eq, State.counted_withFront,
    show (s.withFront f).reportOf l filtered g = s.reportOf l filtered g from rfl,
    show (s.withFront f).casesMoved l g = s.casesMoved l g from rfl,
    show ((s.withFront f).lane l).counting.audit = (s.lane l).counting.audit from rfl,
    State.moveAndReport_withFront, State.evaluateAll_withFront]

theorem State.clearForeign_withFront (filtered : Int) :
    (s.withFront f).clearForeign l filtered = (s.clearForeign l filtered).withFront f := by
  unfold State.clearForeign
  rw [State.setForeign_withFront, State.setReport_withFront]

theorem State.countUnit_withFront (filtered previous : Int) (known : Bool) :
    (s.withFront f).countUnit l filtered previous known = (s.countUnit l filtered previous known).withFront f := by
  unfold State.countUnit
  dsimp only
  rw [State.firstSettle_withFront, State.clearForeign_withFront, State.countSettle_withFront,
    show (s.withFront f).running = s.running from rfl, show (s.withFront f).lane l = s.lane l from rfl,
    show (s.withFront f).foreignGrams l = s.foreignGrams l from rfl,
    show (s.withFront f).foreignSearch l (filtered - previous) = s.foreignSearch l (filtered - previous) from rfl]
  split
  · rfl
  · split
    · rfl
    · split
      · split
        · exact s.takeForeign_withFront f l _ _ _ _
        · rfl
      · rfl

end

/-! ## The settle event (R36) -/

/-- The settler at its settle event: STABLE with W = F (R24, R36). -/
def Settler.atSettle (t : Settler) (w : List Int) (filtered : Int) : Settler :=
  { t with
    state := some .stable, known := true, settleCounter := 0, motionRun := 0, outOfRangeRun := 0
    reference := filtered, window := w }

/-- The state in which the count unit takes up a settle, the front end as before (R36). -/
def State.atSettle (s : State) (l : Lane) (x : Sample) (w : List Int) : State :=
  s.settledTo l x ((s.lane l).settler.atSettle w (filteredWeight w))

theorem State.atSettle_lane_self (s : State) (l : Lane) (x : Sample) (w : List Int) : (s.atSettle l x w).lane l =
    { (s.lane l).sampled x with settler := (s.lane l).settler.atSettle w (filteredWeight w) } := s.settledTo_lane_self l x _

theorem State.atSettle_lane_of_ne (s : State) {l m : Lane} (x : Sample) (w : List Int) (h : m ≠ l) :
    (s.atSettle l x w).lane m = s.lane m := s.settledTo_lane_of_ne x _ h

theorem State.settledTo_setSettler (s : State) (l : Lane) (x : Sample) (a b : Settler) :
    (s.settledTo l x a).setSettler l b = s.settledTo l x b := by
  unfold State.setSettler
  rw [State.settledTo_lane_self]
  exact State.setLane_setLane s l _ _

section

variable {s : State} {l : Lane} {code : BitVec 24} {first : Bool} {g : Int} {w : List Int}

/-- The settler of a lane that settles, before its settle event (R24). -/
theorem SettlesWith.take (h : SettlesWith s l code first g w) : (s.lane l).settler.take (laneOf s.running l) (.grams g) =
    { (s.lane l).settler with
      window := w, outOfRangeRun := 0, settleCounter := (s.lane l).settler.settleCounter + 1 } := by
  rw [(Settler.take_grams g).2.1 h.settling]
  unfold Settler.whileSettling Settler.countRange
  dsimp only
  rw [pushSample_eq_joined, h.window, if_pos ((narrow_iff _ _).mpr h.narrow)]

/-- The sample that brings about a settle event: the count unit's work, then the front end's part of it (R7, R8, R36). -/
theorem SettlesWith.exec (h : SettlesWith s l code first g w) {x : Sample}
    (hx : x = { raw := code.toInt, cls := .inRange, grams := some g }) {t : State}
    (ht : (s.atSettle l x w).countUnit l (filteredWeight w) (s.lane l).settler.reference (s.lane l).settler.known = t)
    (hnode : t.startUp.node = .run) (hl : (t.lane l).settler.state = some .stable)
    (hothers : ∀ m, m ≠ l → (t.lane m).settler.state = (s.lane m).settler.state) :
    exec (.sampleEvent l code first) s = .next (t.withFront (s.frontEnd.afterChange t.quiet)) := by
  have hconfig : s.config = s.running := if_pos h.run
  have hsample : x = sampleOf (laneOf s.config l) ((s.lane l).counting.arithmeticOffset first) code := by
    rw [hconfig, h.sample, hx]
  have hread : readingOf x = some (.grams g) := by rw [hx]; rfl
  have hsettles : ((s.lane l).settler.take (laneOf s.running l) (.grams g)).settles (laneOf s.running l) = true := by
    rw [h.take]
    simp [Settler.settles, h.settling, h.counter]
  have hevent : ((s.taken l x).setSettler l ((s.lane l).settler.take (laneOf s.running l) (.grams g))).settleEvent l =
      t.withFront s.frontEnd.converted := by
    rw [State.taken_setSettler, ← ht, ← State.countUnit_withFront]
    unfold State.settleEvent
    dsimp only
    rw [show (State.withFront (s.settledTo l x ((s.lane l).settler.take (laneOf s.running l) (.grams g)))
      s.frontEnd.converted).lane l = (s.settledTo l x ((s.lane l).settler.take (laneOf s.running l) (.grams g))).lane l
      from rfl, State.settledTo_lane_self, h.take]
    refine congrArg (fun u : State => u.countUnit l _ _ _) ?_
    exact congrArg (fun u : State => u.withFront s.frontEnd.converted) (s.settledTo_setSettler l x _ _)
  rw [exec_sampleEvent_run code first h.converts hsample h.warm h.run hread rfl, if_pos hsettles, hevent,
    State.settleFrontEnd_sample (l := l) hnode]
  · rw [State.taken_settler, h.settling]
    rfl
  · rw [State.taken_settler, h.settling, hl]
    simp
  · intro m hm
    rw [State.taken_settler, hothers m hm]

end

/-! ## The count (R39 to R44, R48, R49) -/

theorem State.applyCount_lane_self (s : State) (l : Lane) (f : Figures) {c : CountUnit} (hc : c = (s.lane l).counting)
    {audit : Bool} (ha : audit = nextAudit (nextDoubt f.accepted c.doubt) c.audit) :
    (s.applyCount l f).lane l = { s.lane l with
      counting := { c with count := f.n, doubt := nextDoubt f.accepted c.doubt, audit := audit }
      notice := if audit = c.audit then (s.lane l).notice
        else noticeAfter { (s.lane l).notice with audit := audit } ((s.applyCount l f).indicatorOf l) } := by
  subst hc ha
  unfold State.applyCount
  dsimp only
  by_cases h : nextAudit (nextDoubt f.accepted (s.lane l).counting.doubt) (s.lane l).counting.audit =
      (s.lane l).counting.audit
  · rw [if_pos h, if_pos h]
    exact s.setLane_lane_self l _
  · rw [if_neg h, if_neg h, State.changeNotice_lane_self, State.setCounting, State.setLane_lane_self]

theorem State.applyCount_lane_of_ne (s : State) {l m : Lane} (f : Figures) (h : m ≠ l) :
    (s.applyCount l f).lane m = s.lane m := by
  unfold State.applyCount
  dsimp only
  split
  · exact s.setLane_lane_of_ne _ h
  · rw [State.changeNotice_lane_of_ne _ _ h]
    exact s.setLane_lane_of_ne _ h

theorem State.applyCount_frame (s : State) (l : Lane) (f : Figures) : s.applyCount l f = { s with
    lanes := (s.applyCount l f).lanes
    queue := if nextAudit (nextDoubt f.accepted (s.lane l).counting.doubt) (s.lane l).counting.audit =
      (s.lane l).counting.audit then s.queue else (s.place (.notice l)).queue } := by
  unfold State.applyCount
  dsimp only
  split <;> rfl

/-- The zero offset after a settle (R48, R49). -/
def State.offsetAfter (s : State) (l : Lane) (filtered : Int) (f : Figures) : Int :=
  if tracksZero (laneOf s.running l) f (s.lane l).foreign.isSome then trackedOffset (s.lane l).counting.zeroOffset filtered
  else (s.lane l).counting.zeroOffset

theorem State.testZero_eq (s : State) (l : Lane) (filtered : Int) (f : Figures) : s.testZero l filtered f =
    if s.offsetAfter l filtered f = (s.lane l).counting.zeroOffset then s
    else s.setLane l { s.lane l with
      counting := { (s.lane l).counting with
        zeroOffset := s.offsetAfter l filtered f, priorOffset := some (s.lane l).counting.zeroOffset }
      settler := { (s.lane l).settler with
        reference := filtered - (s.offsetAfter l filtered f - (s.lane l).counting.zeroOffset), window := [] } } := by
  unfold State.testZero State.trackZero State.offsetAfter
  dsimp only
  by_cases h : tracksZero (laneOf s.running l) f (s.lane l).foreign.isSome = true
  · simp only [if_pos h]
  · simp only [if_neg h, if_true]

theorem State.testZero_frame (s : State) (l : Lane) (filtered : Int) (f : Figures) :
    s.testZero l filtered f = { s with lanes := (s.testZero l filtered f).lanes } := by
  rw [State.testZero_eq]
  split <;> rfl

theorem State.testZero_lane_of_ne (s : State) {l m : Lane} (filtered : Int) (f : Figures) (h : m ≠ l) :
    (s.testZero l filtered f).lane m = s.lane m := by
  rw [State.testZero_eq]
  split
  · rfl
  · exact s.setLane_lane_of_ne _ h

/-- Zero tracking of a lane whose W is F, no earlier offset remembered (R37, R49). -/
theorem State.testZero_lane_self {s : State} {l : Lane} {filtered : Int} (f : Figures)
    (href : (s.lane l).settler.reference = filtered) (hprior : (s.lane l).counting.priorOffset = none) {o z : Int}
    (ho : o = s.offsetAfter l filtered f) (hz : z = (s.lane l).counting.zeroOffset) :
    (s.testZero l filtered f).lane l = { s.lane l with
      counting := { (s.lane l).counting with zeroOffset := o, priorOffset := if o = z then none else some z }
      settler := { (s.lane l).settler with
        reference := filtered - (o - z), window := if o = z then (s.lane l).settler.window else [] } } := by
  rw [State.testZero_eq, ← ho, ← hz]
  by_cases h : o = z
  · subst h
    simp only [if_true, Int.sub_self, Int.sub_zero]
    rw [← href, ← hprior, hz]
  · simp only [if_neg h]
    exact s.setLane_lane_self l _

theorem tracksZero_iff (s : State) (l : Lane) (f : Figures) :
    tracksZero (laneOf s.running l) f (s.lane l).foreign.isSome = true ↔ f.accepted = true ∧ f.n = 0 ∧
      (s.lane l).foreign = none ∧
      f.effective.natAbs ≤ min (laneOf s.running l).baseTol ((laneOf s.running l).unitWeight / 4) := by
  unfold tracksZero trackingBound
  simp [and_assoc]

theorem State.counted_indicatorOf (s : State) (l : Lane) (filtered : Int) (f : Figures) (r : SettleReport) :
    (s.counted l filtered f r).indicatorOf l = (s.applyCount l f).indicatorOf l := by
  have hnotice : ((s.counted l filtered f r).lane l).notice = ((s.applyCount l f).lane l).notice := by
    unfold State.counted State.setReport State.setCounting
    rw [State.setLane_lane_self, State.testZero_eq]
    dsimp only
    split
    · rfl
    · rw [State.setLane_lane_self]
  have hframe : s.counted l filtered f r = { s.applyCount l f with lanes := (s.counted l filtered f r).lanes } :=
    congrArg (fun u : State => u.setReport l r) (State.testZero_frame _ l filtered f)
  refine State.indicatorOf_congr ?_ ?_ ⟨_, _, hnotice⟩ fun _ => State.alertOfLane_congr ?_ ?_ l
  · rw [hframe]
  · rw [hframe]
  · rw [hframe]
  · exact fun i => by rw [hframe]; rfl

/-- The count of a settle, over the state in which the count unit takes it up with W = F (R39 to R44, R48, R49, R53). -/
theorem State.counted_lane_self {s : State} {l : Lane} {filtered : Int} (f : Figures) (r : SettleReport)
    (href : (s.lane l).settler.reference = filtered) (hprior : (s.lane l).counting.priorOffset = none) {o z : Int}
    (ho : o = s.offsetAfter l filtered f) (hz : z = (s.lane l).counting.zeroOffset) {audit : Bool}
    (ha : audit = nextAudit (nextDoubt f.accepted (s.lane l).counting.doubt) (s.lane l).counting.audit) :
    (s.counted l filtered f r).lane l = { s.lane l with
      settler := { (s.lane l).settler with
        reference := filtered - (o - z), window := if o = z then (s.lane l).settler.window else [] }
      counting := { (s.lane l).counting with
        count := f.n, doubt := nextDoubt f.accepted (s.lane l).counting.doubt, audit := audit, zeroOffset := o
        priorOffset := if o = z then none else some z, report := r }
      notice := if audit = (s.lane l).counting.audit then (s.lane l).notice
        else noticeAfter { (s.lane l).notice with audit := audit } ((s.counted l filtered f r).indicatorOf l) } := by
  have hcount := s.applyCount_lane_self l f rfl ha
  have hrunning : (s.applyCount l f).running = s.running := by rw [State.applyCount_frame]
  have hoffset : o = (s.applyCount l f).offsetAfter l filtered f := by
    rw [ho]
    unfold State.offsetAfter
    rw [hrunning, hcount]
  rw [State.counted_indicatorOf]
  unfold State.counted State.setReport State.setCounting
  rw [State.setLane_lane_self, State.testZero_lane_self (o := o) (z := z) f (by rw [hcount]; exact href)
    (by rw [hcount]; exact hprior) hoffset (by rw [hcount]; exact hz), hcount]

theorem State.counted_lane_of_ne (s : State) {l m : Lane} (filtered : Int) (f : Figures) (r : SettleReport) (h : m ≠ l) :
    (s.counted l filtered f r).lane m = s.lane m := by
  unfold State.counted State.setReport State.setCounting
  rw [State.setLane_lane_of_ne _ _ h, State.testZero_lane_of_ne _ _ _ h, State.applyCount_lane_of_ne _ _ h]

theorem State.counted_frame (s : State) (l : Lane) (filtered : Int) (f : Figures) (r : SettleReport) :
    s.counted l filtered f r = { s with
      lanes := (s.counted l filtered f r).lanes
      queue := if nextAudit (nextDoubt f.accepted (s.lane l).counting.doubt) (s.lane l).counting.audit =
        (s.lane l).counting.audit then s.queue else (s.place (.notice l)).queue } := by
  have hcount := congrArg (fun u : State => ({ u with lanes := (s.counted l filtered f r).lanes } : State))
    (s.applyCount_frame l f)
  exact (congrArg (fun u : State => u.setReport l r) (State.testZero_frame (s.applyCount l f) l filtered f)).trans hcount

/-- The count of a settle, from the state before the sample (R36 to R44, R48, R49, R53, R110). -/
theorem counted_of_settle (s : State) (l : Lane) (x : Sample) (w : List Int) (report : SettleReport) {f : Figures}
    (hf : f = figuresOf (laneOf s.running l) (filteredWeight w) (s.foreignGrams l)) :
    Counted s ((s.atSettle l x w).counted l (filteredWeight w) f report) l x w (filteredWeight w) f
      (tracksZero (laneOf s.running l) f (s.lane l).foreign.isSome) (s.offsetAfter l (filteredWeight w) f) report := by
  have hlane := s.atSettle_lane_self l x w
  have hoffset : s.offsetAfter l (filteredWeight w) f = (s.atSettle l x w).offsetAfter l (filteredWeight w) f := by
    unfold State.offsetAfter
    rw [hlane]
    rfl
  have hself := State.counted_lane_self (s := s.atSettle l x w) f report (by rw [hlane]; rfl) (by rw [hlane]; rfl) hoffset
    (z := (s.lane l).counting.zeroOffset) (by rw [hlane]; rfl)
    (audit := nextAudit (nextDoubt f.accepted (s.lane l).counting.doubt) (s.lane l).counting.audit) (by rw [hlane]; rfl)
  rw [hlane] at hself
  have haudit : (((s.atSettle l x w).counted l (filteredWeight w) f report).lane l).counting.audit =
    nextAudit (nextDoubt f.accepted (s.lane l).counting.doubt) (s.lane l).counting.audit := by rw [hself]
  have hdoubt : (((s.atSettle l x w).counted l (filteredWeight w) f report).lane l).counting.doubt =
    nextDoubt f.accepted (s.lane l).counting.doubt := by rw [hself]; rfl
  refine { figures := hf, tracks := tracksZero_iff s l f, offset := ?_, doubt := hdoubt, audit := ?_, lane := ?_,
           others := fun m hm => ?_, frame := ?_ }
  · unfold State.offsetAfter trackedOffset
    rw [clampInt_eq _ (by omega)]
  · rw [haudit, hdoubt]
    rfl
  · rw [haudit, hdoubt]
    exact hself
  · rw [State.counted_lane_of_ne _ _ _ _ hm, State.atSettle_lane_of_ne _ _ _ hm]
  · rw [haudit]
    refine (State.counted_frame _ l _ f report).trans ?_
    rw [hlane]
    rfl

/-! ## The report to the stock view (R51, R80 to R82) -/

theorem sum_filter_eq (xs : List Lane) (p : Lane → Bool) (f : Lane → Nat) :
    ((xs.filter p).map f).sum = (xs.map fun m => if p m = true then f m else 0).sum := by
  induction xs with
  | nil => rfl
  | cons x xs ih =>
    cases h : p x <;> simp [h, ih]

section

variable {s : State} {l : Lane} {i : Slot} (h : articleSlot s.running (articleOfLane s.running l) = some i)

include h

theorem lanesOfSlot_eq : lanesOfSlot s.running i = Lane.all.filter fun m =>
    decide (laneEnabled s.running m = true ∧ articleOfLane s.running m = articleOfLane s.running l) := by
  unfold lanesOfSlot enabledLanes
  rw [articleSlot_article h, List.filter_filter]
  refine List.filter_congr fun m _ => ?_
  rw [Bool.decide_and, Bool.and_comm, Bool.decide_eq_true]

theorem holdingOf_eq : s.holdingOf i = ([Lane.l1, Lane.l2, Lane.l3, Lane.l4].map fun m =>
    if laneEnabled s.running m = true ∧ articleOfLane s.running m = articleOfLane s.running l then
      (s.lane m).counting.count else 0).sum := by
  unfold State.holdingOf
  rw [lanesOfSlot_eq h, sum_filter_eq]
  simp only [decide_eq_true_eq]
  rfl

theorem readyOf_iff : s.readyOf i = true ↔ ∀ m, SharesArticle s.running l m → (s.lane m).settler.known = true := by
  unfold State.readyOf SharesArticle
  rw [lanesOfSlot_eq h, List.all_eq_true]
  refine forall_congr' fun m => ?_
  rw [List.mem_filter, decide_eq_true_eq]
  exact ⟨fun g hm => g ⟨mem_allLanes m, hm⟩, fun g hm => g hm.2⟩

theorem State.reportSlot_reported : Reported s (s.reportSlot i) l i := by
  have hslot : (s.reportSlot i).slot i = (s.slot i).reported (s.holdingOf i) (s.readyOf i) (s.uncertainOf i) := by
    unfold State.reportSlot State.placeStock
    dsimp only
    split <;> exact s.setSlot_slot_self i _
  have hchanged : stockChanged (s.slot i) ((s.slot i).reported (s.holdingOf i) (s.readyOf i) (s.uncertainOf i)) = true ↔
      StockChanged (s.slot i) ((s.reportSlot i).slot i) := by
    rw [hslot]
    unfold stockChanged StockChanged
    simp only [Bool.or_eq_true, decide_eq_true_eq, ne_comm, or_assoc]
  refine { holding := ?_, ready := ?_, uncertain := ?_, timer := ?_, unit := ?_, announced := fun hr hc => ?_,
           silent := fun hr => ?_, others := fun j hj => ?_, frame := ?_ }
  · rw [hslot, ← holdingOf_eq h]
    rfl
  · rw [hslot, ← readyOf_iff h]
    rfl
  · rw [hslot]
    exact uncertainOf_iff h
  · rw [hslot]
    unfold SlotUnit.reported
    cases s.readyOf i <;> cases (s.slot i).ready <;> rfl
  · rw [hslot]
    rfl
  · rw [hslot] at hr
    have hdue := hchanged.mpr hc
    unfold State.reportSlot State.placeStock
    dsimp only
    rw [hr, hdue]
    rfl
  · rw [← hchanged, hslot, Bool.not_eq_true] at hr
    unfold State.reportSlot State.placeStock
    dsimp only
    rcases hr with hr | hr <;> rw [hr] <;> simp
  · unfold State.reportSlot State.placeStock
    dsimp only
    split <;> exact s.setSlot_slot_of_ne _ hj
  · unfold State.reportSlot State.placeStock
    dsimp only
    split <;> rfl

end

theorem State.reportLane_announced (s : State) (l : Lane) : Announced s (s.reportLane l).1 l (s.reportLane l).2 := by
  unfold State.reportLane
  cases hslot : articleSlot s.running (articleOfLane s.running l) with
  | none =>
    exact { slot := fun i hi => by rw [hslot] at hi; cases hi
            none := fun _ => rfl
            owed := fun i => by rw [hslot]; simp }
  | some i =>
    exact { slot := fun j hj => by
              rw [hslot] at hj
              cases hj
              exact State.reportSlot_reported hslot
            none := fun h => by rw [hslot] at h; cases h
            owed := fun j => by rw [hslot]; simp [eq_comm] }

/-! ## The first settle (R45) -/

theorem State.firstSettle_eq (s : State) (l : Lane) (filtered : Int) {f : Figures}
    (hf : f = figuresOf (laneOf s.running l) filtered (s.foreignGrams l)) {q : State}
    (hq : q = s.counted l filtered f { SettleReport.ofFigures .first filtered f with
      accepted := some f.accepted
      zeroTracked := some (tracksZero (laneOf s.running l) f (s.lane l).foreign.isSome) }) :
    s.firstSettle l filtered = (q.reportLane l).1.evaluateAll (q.reportLane l).2 := by
  subst hq hf
  rfl

theorem State.reportLane_matcher (s : State) (l : Lane) : (s.reportLane l).1.matcher = s.matcher := by
  unfold State.reportLane State.reportSlot State.placeStock
  split
  · dsimp only
    split <;> rfl
  · rfl

/-- What follows a settle's count leaves the lanes' settlers, tallies apart from their count units. -/
theorem settledStates {s q t : State} {l : Lane} {x : Sample} {w : List Int} {F : Int} {f : Figures} {Z : Bool} {O : Int}
    {report : SettleReport} (hq : Counted s q l x w F f Z O report) (ht : ∀ m, SameButTallies (q.lane m) (t.lane m)) :
    (t.lane l).settler.state = some .stable ∧ ∀ m, m ≠ l → (t.lane m).settler.state = (s.lane m).settler.state := by
  refine ⟨?_, fun m hm => ?_⟩
  · rw [ht l, hq.lane]
  · rw [ht m, hq.others m hm]

theorem SameButIndicator.sameButTallies {u v : LaneUnit} (h : SameButIndicator u v) : SameButTallies u v := by
  unfold SameButTallies
  rw [h]

theorem State.atSettle_foreignGrams (s : State) (l : Lane) (x : Sample) (w : List Int) :
    (s.atSettle l x w).foreignGrams l = s.foreignGrams l := by
  unfold State.foreignGrams
  rw [State.atSettle_lane_self]
  rfl

/-- The settle of a known lane or of a new one, from its count unit's work to the front end's (R7, R8, R36). -/
theorem SettlesWith.exec_counted {s : State} {l : Lane} {code : BitVec 24} {first : Bool} {g : Int} {w : List Int}
    (h : SettlesWith s l code first g w) {x : Sample} (hx : x = { raw := code.toInt, cls := .inRange, grams := some g })
    {q r : State} {owed : List Slot} {f : Figures} {Z : Bool} {O : Int} {report : SettleReport}
    (hq : Counted s q l x w (filteredWeight w) f Z O report) (hr : ∀ m, SameButTallies (q.lane m) (r.lane m))
    (hstart : r.startUp = s.startUp) (hrunning : r.running = s.running)
    (ht : (s.atSettle l x w).countUnit l (filteredWeight w) (s.lane l).settler.reference (s.lane l).settler.known =
      r.evaluateAll owed) :
    Machine.exec (.sampleEvent l code first) s =
      .next { State.evaluateAll r owed with frontEnd := s.frontEnd.afterChange q.quiet } := by
  have hlanes : ∀ m, SameButTallies (q.lane m) ((r.evaluateAll owed).lane m) := fun m =>
    (hr m).trans ((r.evaluateAll_evaluated owed).lanes m).sameButTallies
  obtain ⟨hl, hothers⟩ := settledStates hq hlanes
  have hrest := (r.evaluateAll_evaluated owed).rest
  have hnode : (r.evaluateAll owed).startUp.node = .run := by
    rw [hrest]
    exact (congrArg StartUp.node hstart).trans h.run
  have hquiet : (r.evaluateAll owed).quiet = q.quiet := by
    refine State.quiet_congr ?_ fun m => ?_
    · rw [hrest, hq.frame]
      exact hrunning
    · rw [hlanes m]
  rw [h.exec hx ht hnode hl hothers, hquiet]
  rfl

/-- Settles O26. -/
theorem firstSettleCountsWithoutMovement : Obligations.FirstSettleCountsWithoutMovement := by
  intro s l code first g w h hknown
  obtain ⟨x, hx⟩ : ∃ x : Sample, x = { raw := code.toInt, cls := .inRange, grams := some g } := ⟨_, rfl⟩
  obtain ⟨f, hf⟩ : ∃ f, f = figuresOf (laneOf s.running l) (filteredWeight w) (s.foreignGrams l) := ⟨_, rfl⟩
  obtain ⟨report, hreport⟩ : ∃ r, r = { SettleReport.ofFigures .first (filteredWeight w) f with
    accepted := some f.accepted
    zeroTracked := some (tracksZero (laneOf s.running l) f (s.lane l).foreign.isSome) } := ⟨_, rfl⟩
  have hq := counted_of_settle s l x w report hf
  obtain ⟨q, hqdef⟩ : ∃ q, q = (s.atSettle l x w).counted l (filteredWeight w) f report := ⟨_, rfl⟩
  rw [← hqdef] at hq
  have hann := q.reportLane_announced l
  have hlanes : ∀ m, SameButTallies (q.lane m) ((q.reportLane l).1.lane m) := fun m => by
    rw [State.reportLane_lane]
    exact SameButTallies.refl _
  have hkeeps := q.reportLane_keeps (own := none) l
  have hframe := ((q.reportLane l).1.evaluateAll_evaluated (q.reportLane l).2).rest
  refine ⟨_, q, (q.reportLane l).1, (q.reportLane l).2, filteredWeight w, f,
    tracksZero (laneOf s.running l) f (s.lane l).foreign.isSome, s.offsetAfter l (filteredWeight w) f,
    h.exec_counted hx hq hlanes (owed := (q.reportLane l).2) ?_ ?_ ?_, roundDiv_rounds _ _ (by omega), ?_, hann, rfl,
    fun m => ?_, ?_⟩
  · rw [hkeeps.startUp, hq.frame]
  · rw [hkeeps.running, hq.frame]
  · unfold State.countUnit
    rw [if_pos hknown]
    refine State.firstSettle_eq _ l _ (f := f) ?_ ?_
    · rw [hf, State.atSettle_foreignGrams]
      rfl
    · rw [hqdef, hreport, State.atSettle_lane_self]
      rfl
  · rw [← hx]
    rw [hreport] at hq
    exact hq
  · rw [← q.reportLane_lane l m]
    exact ((q.reportLane l).1.evaluateAll_evaluated (q.reportLane l).2).lanes m
  · show ((q.reportLane l).1.evaluateAll (q.reportLane l).2).matcher = s.matcher
    rw [hframe]
    refine (q.reportLane_matcher l).trans ?_
    rw [hq.frame]

end Sys2Proof.Machine
end

section
/-! The settle of a known lane (sections 3.2 and 3.4 to 3.8): its count, its movement at the matcher, and its report. -/

namespace Sys2Proof.Machine

open Sys2Proof.Config

/-! ## The movement at the matcher (R56 to R58) -/

theorem State.reportLane_kept (s : State) (l : Lane) {k : RequestKey} (h : k ∈ s.queue.requests.map Request.key) :
    k ∈ (s.reportLane l).1.queue.requests.map Request.key := by
  unfold State.reportLane State.reportSlot State.placeStock
  split
  · dsimp only
    split
    · exact (State.mem_place _ _ _).mpr (.inr h)
    · exact h
  · exact h

theorem State.mem_evictPending_owed (s : State) (i : Slot) : i ∈ s.evictPending.2 ↔ 8 ≤ s.matcher.pendingOut.length ∧
    ∃ e, s.matcher.pendingOut.head? = some e ∧ articleSlot s.running e.article = some i := by
  unfold State.evictPending
  split
  · rename_i e rest he
    rw [he]
    split
    · rename_i hlen
      rw [State.mem_slotsFor]
      exact ⟨fun h => ⟨hlen, e, rfl, h⟩, fun ⟨_, x, hx, h⟩ => by cases hx; exact h⟩
    · rename_i hlen
      exact ⟨fun h => by simp at h, fun h => absurd h.1 hlen⟩
  · rename_i he
    rw [he]
    simp

theorem State.handMovement_owed (s : State) (l : Lane) (delta : Int) (i : Slot) : i ∈ (s.handMovement l delta).2 ↔
    delta < 0 ∧ 8 ≤ s.matcher.pendingOut.length ∧
      ∃ e, s.matcher.pendingOut.head? = some e ∧ articleSlot s.running e.article = some i := by
  unfold State.handMovement
  dsimp only
  by_cases h : delta < 0
  · rw [if_pos h]
    exact (s.mem_evictPending_owed i).trans (by simp [h])
  · rw [if_neg h]
    simp [h]

/-- The lists after room has been made for a new pending-out entry (R57). -/
theorem ListsSound.evicted {s : State} (hs : ListsSound s) : s.evictPending.1.matcher = { s.matcher with
    pendingOut := if s.matcher.pendingOut.length < 8 then s.matcher.pendingOut else s.matcher.pendingOut.tail } := by
  cases he : s.matcher.pendingOut with
  | nil =>
    unfold State.evictPending
    rw [he, if_pos (by decide)]
    dsimp only
    rw [← he]
  | cons e rest =>
    by_cases hlen : (e :: rest).length < 8
    · unfold State.evictPending
      rw [he, if_pos hlen]
      dsimp only
      rw [if_neg (by omega), ← he]
    · rw [State.evictPending_full he (by omega), if_neg hlen]
      have hlist := hs.oldest_removed he .pick
      rw [State.removePending_eq] at hlist ⊢
      exact congrArg (fun es => { s.matcher with pendingOut := es }) hlist

/-- A decrease makes the newest entry of the list, queued for its OFFER (R56 to R58). -/
theorem ListsSound.decreased {s : State} (hs : ListsSound s) (l : Lane) {n : Int} (hn : n < 0) : ∃ e : PendingOut,
    (s.handMovement l n).1.matcher = { s.matcher with
      pendingOut := (if s.matcher.pendingOut.length < 8 then s.matcher.pendingOut else s.matcher.pendingOut.tail) ++ [e]
      tagCounter := e.tag + 1 } ∧
    e.article = articleOfLane s.running l ∧ e.lane = l ∧ (e.count : Int) = -n ∧
    e.grams = e.count * (laneOf s.running l).unitWeight ∧
    e.tol = min 65535 (tolerance (laneOf s.running l) e.count) ∧
    e.remaining = s.running.matchWindow * 1000000 ∧ e.status = .queued ∧
    (.offer e.tag) ∈ (s.handMovement l n).1.queue.requests.map Request.key := by
  have hrunning : s.evictPending.1.running = s.running := (s.evictPending_keeps (own := none)).running
  obtain ⟨tag, htag⟩ : ∃ t, t = freeTag (s.evictPending.1.matcher.pendingOut.map PendingOut.tag) 9
    s.evictPending.1.matcher.tagCounter := ⟨_, rfl⟩
  have hmove : (s.handMovement l n).1 = s.evictPending.1.createPending (movementOf s.running l n.natAbs) := by
    unfold State.handMovement
    rw [if_pos hn]
  refine ⟨{ tag := tag, article := articleOfLane s.running l, lane := l, count := n.natAbs,
            grams := n.natAbs * (laneOf s.running l).unitWeight,
            tol := min 65535 (tolerance (laneOf s.running l) n.natAbs),
            remaining := sec s.running.matchWindow, status := .queued }, ?_, rfl, rfl, ?_, rfl, rfl, rfl, rfl, ?_⟩
  · rw [hmove]
    unfold State.createPending
    dsimp only
    rw [← htag, hs.evicted, hrunning]
    rfl
  · simp only []
    omega
  · rw [hmove]
    unfold State.createPending
    dsimp only
    rw [← htag]
    exact (State.mem_place _ _ _).mpr (.inl rfl)

/-! ## The settle of a known lane (R39, R44, R46, R47) -/

section

variable {s : State} {l : Lane} {F p : Int}

/-- The foreign search finds nothing (R72). -/
theorem State.foreignSearch_none {d : Int}
    (hown : ∀ x ∈ s.matcher.pendingOut, ¬ (x.article ≠ articleOfLane s.running l ∧
      (d - (x.grams : Int)).natAbs ≤ x.tol + (laneOf s.running l).baseTol))
    (hheard : ∀ x ∈ s.matcher.heard, ¬ (x.claimStatus = .none ∧ x.article ≠ articleOfLane s.running l ∧
      (d - (x.grams : Int)).natAbs ≤ x.tol + (laneOf s.running l).baseTol)) : s.foreignSearch l d = none := by
  have hpending : s.matcher.pendingOut.find? (fun e => decide (e.article ≠ articleOfLane s.running l) &&
      weightFits d e.grams e.tol (laneOf s.running l).baseTol) = none :=
    List.find?_eq_none.mpr fun e he => by
      unfold weightFits
      rw [Bool.and_eq_true, decide_eq_true_eq, decide_eq_true_eq]
      exact hown e he
  have hoffers : s.matcher.heard.find? (fun e => decide (e.claimStatus = .none) &&
      decide (e.article ≠ articleOfLane s.running l) && weightFits d e.grams e.tol (laneOf s.running l).baseTol) = none :=
    List.find?_eq_none.mpr fun e he => by
      unfold weightFits
      rw [Bool.and_eq_true, Bool.and_eq_true, decide_eq_true_eq, decide_eq_true_eq, decide_eq_true_eq, and_assoc]
      exact hheard e he
  unfold State.foreignSearch
  dsimp only
  rw [hpending, hoffers]
  rfl

/-- A settle of a known lane that neither removes nor finds a foreign item is counted (R39). -/
theorem State.countUnit_counts
    (hremoved : ∀ r, (s.lane l).foreign = some r →
      ¬ (F - p < 0 ∧ ((F - p) + r.grams).natAbs ≤ r.tol + (laneOf s.running l).baseTol))
    (hfound : (figuresOf (laneOf s.running l) F (s.foreignGrams l)).accepted = true ∨ F - p ≤ 0 ∨ (s.lane l).foreign ≠ none ∨
      s.foreignSearch l (F - p) = none) :
    s.countUnit l F p true = s.countSettle l F (figuresOf (laneOf s.running l) F (s.foreignGrams l)) := by
  have hany : ¬ (s.lane l).foreign.any (fun r => decide (F - p < 0) && removalFits r (F - p) (laneOf s.running l).baseTol) =
      true := by
    rw [Option.any_eq_true]
    rintro ⟨r, hr, hfit⟩
    unfold removalFits at hfit
    rw [Bool.and_eq_true, decide_eq_true_eq, decide_eq_true_eq] at hfit
    exact hremoved r hr hfit
  unfold State.countUnit
  dsimp only
  rw [if_neg (by simp), if_neg hany]
  split
  · rename_i hcond
    obtain ⟨hrejected, hrise, hnone⟩ := hcond
    rw [hrejected] at hfound
    rcases hfound with h | h | h | h
    · cases h
    · omega
    · exact absurd hnone h
    · rw [h]
  · rfl

end

theorem State.moveAndReport_lane (q : State) (l : Lane) (n : Int) (audit : Bool) (m : Lane) :
    SameButTallies (q.lane m) ((q.moveAndReport l n audit).1.lane m) := by
  unfold State.moveAndReport
  dsimp only
  have hmoved : SameButTallies (q.lane m) ((if n = 0 then (q, []) else q.handMovement l n).1.lane m) := by
    split
    · exact SameButTallies.refl _
    · exact q.handMovement_sameButTallies l n m
  revert hmoved
  generalize (if n = 0 then (q, []) else q.handMovement l n) = moved
  intro hmoved
  split
  · exact hmoved
  · rw [State.reportLane_lane]
    exact hmoved

theorem State.moveAndReport_keeps (q : State) (l : Lane) (n : Int) (audit : Bool) :
    Keeps none q (q.moveAndReport l n audit).1 := by
  unfold State.moveAndReport
  dsimp only
  have hmoved : Keeps none q (if n = 0 then (q, []) else q.handMovement l n).1 := by
    split
    · exact Keeps.refl q
    · exact q.handMovement_keeps l n
  revert hmoved
  generalize (if n = 0 then (q, []) else q.handMovement l n) = moved
  intro hmoved
  split
  · exact hmoved
  · exact hmoved.trans (State.reportLane_keeps _ l)

/-- The sample of a settle that is counted, from the state before it. -/
theorem SettlesWith.exec_known {s : State} {l : Lane} {code : BitVec 24} {first : Bool} {g : Int} {w : List Int}
    (h : SettlesWith s l code first g w) (hknown : (s.lane l).settler.known = true) {x : Sample}
    (hx : x = { raw := code.toInt, cls := .inRange, grams := some g }) {f : Figures}
    (hf : f = figuresOf (laneOf s.running l) (filteredWeight w) (s.foreignGrams l)) {n : Int}
    (hn : n = (f.n : Int) - ((s.lane l).counting.count : Int)) {report : SettleReport}
    (hreport : report = countedReport (filteredWeight w) n f (tracksZero (laneOf s.running l) f (s.lane l).foreign.isSome))
    {q : State} (hq : q = (s.atSettle l x w).counted l (filteredWeight w) f report)
    (hremoved : ∀ r, (s.lane l).foreign = some r → ¬ (filteredWeight w - (s.lane l).settler.reference < 0 ∧
      ((filteredWeight w - (s.lane l).settler.reference) + r.grams).natAbs ≤ r.tol + (laneOf s.running l).baseTol))
    (hfound : f.accepted = true ∨ filteredWeight w - (s.lane l).settler.reference ≤ 0 ∨ (s.lane l).foreign ≠ none ∨
      s.foreignSearch l (filteredWeight w - (s.lane l).settler.reference) = none) :
    Machine.exec (.sampleEvent l code first) s = .next { State.evaluateAll
      (q.moveAndReport l n (s.lane l).counting.audit).1 (q.moveAndReport l n (s.lane l).counting.audit).2 with
      frontEnd := s.frontEnd.afterChange q.quiet } := by
  have hcounted := counted_of_settle s l x w report hf
  rw [← hq] at hcounted
  have hkeeps := q.moveAndReport_keeps l n (s.lane l).counting.audit
  refine h.exec_counted hx hcounted (q.moveAndReport_lane l n _) ?_ ?_ ?_
  · rw [hkeeps.startUp, hcounted.frame]
  · rw [hkeeps.running, hcounted.frame]
  · have hlane := s.atSettle_lane_self l x w
    have hfigures : figuresOf (laneOf (s.atSettle l x w).running l) (filteredWeight w) ((s.atSettle l x w).foreignGrams l) =
        f := by
      rw [hf, State.atSettle_foreignGrams]
      rfl
    rw [hknown, State.countUnit_counts, hfigures, State.countSettle_eq]
    · have hmoves : (s.atSettle l x w).casesMoved l f = n := by
        rw [hn]
        unfold State.casesMoved
        rw [hlane]
        rfl
      have hmade : (s.atSettle l x w).reportOf l (filteredWeight w) f = report := by
        unfold State.reportOf
        rw [hmoves, hreport, hlane]
        rfl
      rw [hmoves, hmade, ← hq, hlane]
      rfl
    · rw [hlane]
      exact hremoved
    · rw [hfigures, hlane]
      exact hfound

/-- Settles O27. -/
theorem knownSettleCountsAndMoves : Obligations.KnownSettleCountsAndMoves := by
  intro s l code first g w h hknown F d hF hd hremoved f hf hfound n hn
  subst hF hd
  obtain ⟨x, hx⟩ : ∃ x : Sample, x = { raw := code.toInt, cls := .inRange, grams := some g } := ⟨_, rfl⟩
  obtain ⟨Z, hZ⟩ : ∃ Z, Z = tracksZero (laneOf s.running l) f (s.lane l).foreign.isSome := ⟨_, rfl⟩
  obtain ⟨report, hreport⟩ : ∃ r, r = countedReport (filteredWeight w) n f Z := ⟨_, rfl⟩
  obtain ⟨q, hqdef⟩ : ∃ q, q = (s.atSettle l x w).counted l (filteredWeight w) f report := ⟨_, rfl⟩
  have hq := counted_of_settle s l x w report hf
  rw [← hqdef, ← hZ] at hq
  have hmatcher : q.matcher = s.matcher := by rw [hq.frame]
  have hrunning : q.running = s.running := by rw [hq.frame]
  have hexec := h.exec_known hknown hx hf hn (hZ ▸ hreport) hqdef hremoved
    (hfound.imp_right (Or.imp_right (Or.imp_right fun ⟨hown, hheard⟩ => State.foreignSearch_none hown hheard)))
  obtain ⟨moved, hmoved⟩ : ∃ m, m = if n = 0 then (q, []) else q.handMovement l n := ⟨_, rfl⟩
  obtain ⟨reported, hreported⟩ : ∃ r, r = if n = 0 ∧ (moved.1.lane l).counting.audit = (s.lane l).counting.audit then
    (moved.1, []) else moved.1.reportLane l := ⟨_, rfl⟩
  have hboth : q.moveAndReport l n (s.lane l).counting.audit = (reported.1, moved.2 ++ reported.2) := by
    rw [hreported, hmoved]
    rfl
  rw [hboth] at hexec
  have hzero : n = 0 → moved = (q, []) := fun h0 => hmoved.trans (if_pos h0)
  have hsome : n ≠ 0 → moved = q.handMovement l n := fun h0 => hmoved.trans (if_neg h0)
  have hsplit : reported = (moved.1, []) ∨ reported = moved.1.reportLane l := by
    rw [hreported]
    split
    · exact .inl rfl
    · exact .inr rfl
  have hreportedMatcher : reported.1.matcher = moved.1.matcher := by
    rcases hsplit with hr | hr <;> rw [hr]
    exact moved.1.reportLane_matcher l
  have hreportedLane : ∀ m, reported.1.lane m = moved.1.lane m := fun m => by
    rcases hsplit with hr | hr <;> rw [hr]
    exact moved.1.reportLane_lane l m
  have hevaluated := reported.1.evaluateAll_evaluated (moved.2 ++ reported.2)
  have hrest : (reported.1.evaluateAll (moved.2 ++ reported.2)).matcher = reported.1.matcher := by rw [hevaluated.rest]
  refine ⟨_, q, moved.1, moved.2, reported.1, reported.2, Z, s.offsetAfter l (filteredWeight w) f, hexec,
    roundDiv_rounds _ _ (by omega), ?_, fun h0 => ?_, fun h0 => ?_, fun i => ?_, fun h0 ha => ?_, fun h0 => ?_, rfl,
    fun h0 => ?_, fun h0 hs => ?_, fun m => ?_⟩
  · rw [← hx]
    have hsame : report = _ := hreport
    unfold countedReport at hsame
    rw [hsame] at hq
    cases ha : f.accepted <;> simp only [ha] at hq ⊢ <;> exact hq
  · rw [hzero h0]
  · rw [hsome h0]
  · by_cases h0 : n = 0
    · rw [hzero h0]
      simp [h0]
    · rw [hsome h0, State.handMovement_owed, hmatcher, hrunning]
  · have hnone : reported = (moved.1, []) := hreported.trans (if_pos ⟨h0, by rw [hzero h0]; exact ha⟩)
    rw [hnone]
    exact ⟨rfl, rfl⟩
  · have hreports : reported = moved.1.reportLane l := by
      refine hreported.trans (if_neg fun hboth => ?_)
      rw [hzero hboth.1] at hboth
      exact h0.elim (fun hne => hne hboth.1) fun hne => hne hboth.2
    rw [hreports]
    exact moved.1.reportLane_announced l
  · refine ⟨hrest.trans ?_, fun m => ?_⟩
    · rw [hreportedMatcher, hzero h0, hmatcher]
    · refine (congrArg (fun v : LaneUnit => v.counting.tallies) (hevaluated.lanes m)).trans ?_
      dsimp only
      rw [hreportedLane, hzero h0]
      by_cases hm : m = l
      · rw [hm, hq.lane]
      · rw [hq.others m hm]
  · have hsq : ListsSound q := ListsSound.congr hmatcher hrunning hs
    obtain ⟨e, hlists, harticle, hlane, hcount, hgrams, htol, hwindow, hstatus, hkey⟩ := hsq.decreased l h0
    rw [← hsome (by omega), hmatcher] at hlists
    rw [← hsome (by omega)] at hkey
    rw [hrunning] at harticle hgrams htol hwindow
    have hfinal := hrest.trans (hreportedMatcher.trans hlists)
    refine ⟨e, congrArg Matcher.pendingOut hfinal, (congrArg Matcher.heard hfinal :), congrArg Matcher.tagCounter hfinal,
      harticle, hlane, hcount, hgrams, htol, hwindow, hstatus, hevaluated.kept _ ?_⟩
    rcases hsplit with hr | hr <;> rw [hr]
    · exact hkey
    · exact moved.1.reportLane_kept l hkey
  · have hall := q.moveAndReport_lane l n (s.lane l).counting.audit m
    rw [hboth] at hall
    exact hall.trans (hevaluated.lanes m).sameButTallies

end Sys2Proof.Machine
end

section
/-! Foreign items (sections 3.6 and 4.6): the record that a rise sets and a fall clears. -/

namespace Sys2Proof.Machine

open Sys2Proof.Config

/-! ## The foreign record of a lane (R73, R74, R110) -/

section

variable (s : State) (l : Lane)

theorem State.setForeign_lane_self (r : Option ForeignRecord) : (s.setForeign l r).lane l = { s.lane l with
    foreign := r
    notice := noticeAfter { (s.lane l).notice with foreign := r.isSome } ((s.setForeign l r).indicatorOf l) } := by
  unfold State.setForeign
  rw [State.changeNotice_lane_self, State.setLane_lane_self]

theorem State.setForeign_lane_of_ne (r : Option ForeignRecord) {m : Lane} (h : m ≠ l) :
    (s.setForeign l r).lane m = s.lane m := by
  unfold State.setForeign
  rw [State.changeNotice_lane_of_ne _ _ h, State.setLane_lane_of_ne _ _ h]

theorem State.setForeign_frame (r : Option ForeignRecord) : s.setForeign l r = { s with
    lanes := (s.setForeign l r).lanes, queue := (s.place (.notice l)).queue } := rfl

/-- A change of a lane's count unit leaves the indicators. -/
theorem State.setCounting_indicatorOf (c : CountUnit) (m : Lane) : (s.setCounting l c).indicatorOf m = s.indicatorOf m := by
  refine State.indicatorOf_congr rfl rfl ⟨(s.lane m).notice.indicator, (s.lane m).notice.timer, ?_⟩ fun _ => rfl
  by_cases hm : m = l
  · subst hm
    rw [State.setCounting, State.setLane_lane_self]
  · rw [State.setCounting, State.setLane_lane_of_ne _ _ hm]

theorem State.setCounting_setCounting (c d : CountUnit) : (s.setCounting l c).setCounting l d = s.setCounting l d := by
  unfold State.setCounting
  rw [State.setLane_lane_self, State.setLane_setLane]

theorem State.clearForeign_lane_self (filtered : Int) : (s.clearForeign l filtered).lane l = { s.lane l with
    foreign := none
    counting := { (s.lane l).counting with
      report := { SettleReport.bare .foreignCleared with filtered := some filtered } }
    notice := noticeAfter { (s.lane l).notice with foreign := false } ((s.clearForeign l filtered).indicatorOf l) } := by
  unfold State.clearForeign State.setReport
  rw [State.setCounting_indicatorOf]
  unfold State.setCounting
  rw [State.setLane_lane_self, State.setForeign_lane_self]
  rfl

theorem State.clearForeign_lane_of_ne (filtered : Int) {m : Lane} (h : m ≠ l) :
    (s.clearForeign l filtered).lane m = s.lane m :=
  (State.setLane_lane_of_ne _ _ h).trans (s.setForeign_lane_of_ne l none h)

theorem State.foreignSet_lane_self (r : ForeignRecord) (report : SettleReport) : (s.foreignSet l r report).lane l =
    { s.lane l with
      foreign := some r
      counting := { (s.lane l).counting with
        tallies := (s.lane l).counting.tallies.addForeignSeen, report := report }
      notice := noticeAfter { (s.lane l).notice with foreign := true } ((s.foreignSet l r report).indicatorOf l) } := by
  unfold State.foreignSet State.setReport State.setTallies
  rw [State.setCounting_indicatorOf, State.setCounting_indicatorOf, State.setCounting_setCounting]
  unfold State.setCounting
  rw [State.setLane_lane_self, State.setLane_lane_self, State.setForeign_lane_self]
  rfl

theorem State.foreignSet_lane_of_ne (r : ForeignRecord) (report : SettleReport) {m : Lane} (h : m ≠ l) :
    (s.foreignSet l r report).lane m = s.lane m :=
  ((State.setLane_lane_of_ne _ _ h).trans (State.setLane_lane_of_ne _ _ h)).trans (s.setForeign_lane_of_ne l _ h)

theorem State.foreignSet_frame (r : ForeignRecord) (report : SettleReport) : s.foreignSet l r report = { s with
    lanes := (s.foreignSet l r report).lanes, queue := (s.place (.notice l)).queue } := rfl

end

/-! ## The matched offer (R73) -/

theorem claimsHeld_withdraw_offer (q : List Request) (tag : Byte) :
    claimsHeld (q.filter fun r => decide (r.key ≠ .offer tag)) = claimsHeld q := by
  unfold claimsHeld
  rw [List.countP_filter]
  refine List.countP_congr fun r _ => ?_
  unfold Request.isClaim
  cases hk : r.key <;> simp [keyKind]

/-- An own entry that matched a foreign item leaves the list, with the CLAIM that cancels its OFFER (R62, R73). -/
theorem State.dealWithMatch_own (v : State) (e : PendingOut) {b c : State}
    (hb : b = if e.status = .sent then v else v.withdraw (.offer e.tag))
    (hc : c = if e.status ≠ .queued ∧ claimsHeld v.queue.requests < 8 then b.placeClaim v.running.station e.tag .foreign
      else b) :
    (v.dealWithMatch (.own e)).1 = { v with
      lanes := (v.setTallies e.lane (Tallies.addRelocatedOut e.count)).lanes
      matcher := { v.matcher with pendingOut := v.matcher.pendingOut.filter fun x => decide (x.tag ≠ e.tag) }
      queue := c.queue, link := c.link } := by
  have hroom : (v.removePending e .relocatedOut).claimRoom = true ↔ claimsHeld v.queue.requests < 8 := by
    unfold State.claimRoom
    rw [decide_eq_true_eq, State.removePending_requests]
    split
    · exact Iff.rfl
    · rw [claimsHeld_withdraw_offer]
  unfold State.dealWithMatch State.cancelOffer
  dsimp only
  simp only [hroom]
  subst hc hb
  rw [State.removePending_eq]
  by_cases hsent : e.status = .sent
  · simp only [if_pos hsent]
    split <;> rfl
  · simp only [if_neg hsent]
    split <;> rfl

/-! ## The search (R46, R47, R72) -/

section

variable {s : State} {l : Lane} {F p : Int}

/-- A rejected rise of a known lane that the search finds a match for sets the lane's record (R47). -/
theorem State.countUnit_sets (hforeign : (s.lane l).foreign = none) {f : Figures}
    (hf : f = figuresOf (laneOf s.running l) F (s.foreignGrams l)) (hrejected : f.accepted = false) (hrise : 0 < F - p)
    {m : ForeignMatch} (hm : s.foreignSearch l (F - p) = some m) :
    s.countUnit l F p true = s.takeForeign l F (F - p) f m := by
  unfold State.countUnit
  dsimp only
  rw [if_neg (by simp), if_neg (by simp [hforeign]), ← hf, if_pos ⟨hrejected, hrise, hforeign⟩, hm]

/-- A fall that fits the lane's record clears it (R46, R74). -/
theorem State.countUnit_clears {r : ForeignRecord} (hr : (s.lane l).foreign = some r) (hfall : F - p < 0)
    (hfit : ((F - p) + r.grams).natAbs ≤ r.tol + (laneOf s.running l).baseTol) :
    s.countUnit l F p true = s.clearForeign l F := by
  unfold State.countUnit
  dsimp only
  rw [if_neg (by simp), if_pos]
  rw [Option.any_eq_true]
  exact ⟨r, hr, by simp [removalFits, hfall, hfit]⟩

theorem State.foreignSearch_own {d : Int} {e : PendingOut}
    (h : s.matcher.pendingOut.find? (fun e => decide (e.article ≠ articleOfLane s.running l) &&
      decide ((d - (e.grams : Int)).natAbs ≤ e.tol + (laneOf s.running l).baseTol)) = some e) :
    s.foreignSearch l d = some (.own e) := by
  unfold State.foreignSearch weightFits
  dsimp only
  rw [h]

theorem State.foreignSearch_heard {d : Int} {e : HeardOffer}
    (hown : ∀ x ∈ s.matcher.pendingOut, ¬ (x.article ≠ articleOfLane s.running l ∧
      (d - (x.grams : Int)).natAbs ≤ x.tol + (laneOf s.running l).baseTol))
    (h : s.matcher.heard.find? (fun e => decide (e.claimStatus = .none) &&
      decide (e.article ≠ articleOfLane s.running l) &&
      decide ((d - (e.grams : Int)).natAbs ≤ e.tol + (laneOf s.running l).baseTol)) = some e) :
    s.foreignSearch l d = some (.heard e) := by
  have hpending : s.matcher.pendingOut.find? (fun e => decide (e.article ≠ articleOfLane s.running l) &&
      decide ((d - (e.grams : Int)).natAbs ≤ e.tol + (laneOf s.running l).baseTol)) = none :=
    List.find?_eq_none.mpr fun e he => by simpa using hown e he
  unfold State.foreignSearch weightFits
  dsimp only
  rw [hpending, h]
  rfl

end

/-- A lane after a settle that sets or clears its foreign record: STABLE with W = F (R36, R46, R47, R110). -/
def LaneUnit.withRecord (u : LaneUnit) (x : Sample) (w : List Int) (record : Option ForeignRecord) (report : SettleReport)
    (shown : IndicatorDrive) : LaneUnit :=
  { u with
    lastSample := x
    settler := { u.settler with
      state := some .stable, settleCounter := 0, motionRun := 0, outOfRangeRun := 0, reference := filteredWeight w
      window := w }
    counting := { u.counting with report := report, priorOffset := none }
    foreign := record
    notice := noticeAfter { u.notice with foreign := record.isSome } shown }

theorem Settler.atSettle_of_known {t : Settler} (h : t.known = true) (w : List Int) (filtered : Int) :
    t.atSettle w filtered = { t with
      state := some .stable, settleCounter := 0, motionRun := 0, outOfRangeRun := 0, reference := filtered
      window := w } := by
  unfold Settler.atSettle
  rw [← h]

/-- A settle of a known lane that counts nothing: the front end follows the lane's state (R7, R8). -/
theorem SettlesWith.exec_foreign {s : State} {l : Lane} {code : BitVec 24} {first : Bool} {g : Int} {w : List Int}
    (h : SettlesWith s l code first g w) (hknown : (s.lane l).settler.known = true) {x : Sample}
    (hx : x = { raw := code.toInt, cls := .inRange, grams := some g }) {u : State} (hu : u = s.atSettle l x w)
    (r : State) {owed : List Slot} (ht : u.countUnit l (filteredWeight w) (s.lane l).settler.reference true = r.evaluateAll owed)
    (hstart : r.startUp = s.startUp) (hl : (r.lane l).settler.state = some .stable)
    (hothers : ∀ m, m ≠ l → (r.lane m).settler.state = (s.lane m).settler.state) :
    Machine.exec (.sampleEvent l code first) s =
      .next { State.evaluateAll r owed with frontEnd := s.frontEnd.afterChange r.quiet } := by
  have hevaluated := r.evaluateAll_evaluated owed
  have hstate : ∀ m, ((r.evaluateAll owed).lane m).settler.state = (r.lane m).settler.state := fun m =>
    congrArg Settler.state (r.evaluateAll_lane owed m)
  have hnode : (r.evaluateAll owed).startUp.node = .run := by
    rw [hevaluated.rest]
    exact (congrArg StartUp.node hstart).trans h.run
  have hquiet : (r.evaluateAll owed).quiet = r.quiet := State.quiet_congr (by rw [hevaluated.rest]) hstate
  rw [h.exec hx (hknown ▸ hu ▸ ht) hnode ((hstate l).trans hl) fun m hm => (hstate m).trans (hothers m hm), hquiet]
  rfl

theorem State.foreignSet_withRecord {s : State} {l : Lane} (hknown : (s.lane l).settler.known = true) (x : Sample)
    (w : List Int) (r : ForeignRecord) (report : SettleReport) {v : State} (hv : v = (s.atSettle l x w).foreignSet l r report)
    {base : LaneUnit} (hbase : base = (s.lane l).withRecord x w (some r) report (v.indicatorOf l)) :
    v.lane l = { base with counting := { base.counting with
      tallies := (s.lane l).counting.tallies.addForeignSeen } } := by
  have hself := (s.atSettle l x w).foreignSet_lane_self l r report
  rw [← hv, State.atSettle_lane_self] at hself
  rw [hself, hbase, Settler.atSettle_of_known hknown]
  rfl

section

variable {s : State} {l : Lane}

theorem State.withdraw_congr {s t : State} (hq : t.queue = s.queue) (hl : t.link = s.link) (k : RequestKey) :
    (t.withdraw k).queue = (s.withdraw k).queue ∧ (t.withdraw k).link = (s.withdraw k).link := by
  rw [State.withdraw_eq, State.withdraw_eq, hq, hl]
  exact ⟨rfl, rfl⟩

theorem State.placeClaim_queue_congr {s t : State} (hq : t.queue = s.queue) (hn : t.now = s.now) (station : Nat) (tag : Byte)
    (type : ClaimType) : (t.placeClaim station tag type).queue = (s.placeClaim station tag type).queue := by
  unfold State.placeClaim
  dsimp only
  rw [hq, hn]

/-- The matched own entry leaves, over the state before the sample (R62, R73). -/
theorem own_entry_leaves {v a b c : State} (hv : v = { s with lanes := v.lanes, queue := (s.place (.notice l)).queue })
    (e : PendingOut) (ha : a = s.place (.notice l)) (hb : b = if e.status = .sent then a else a.withdraw (.offer e.tag))
    (hc : c = if e.status ≠ .queued ∧ claimsHeld s.queue.requests < 8 then b.placeClaim s.running.station e.tag .foreign
      else b) :
    (v.dealWithMatch (.own e)).1 = { s with
      lanes := (v.setTallies e.lane (Tallies.addRelocatedOut e.count)).lanes
      matcher := { s.matcher with pendingOut := s.matcher.pendingOut.filter fun x => decide (x.tag ≠ e.tag) }
      queue := c.queue, link := c.link } := by
  have hqueue : v.queue = a.queue := by rw [hv, ha]
  have hlink : v.link = a.link := by rw [hv, ha]; rfl
  have hnow : v.now = a.now := by rw [hv, ha]; rfl
  have hstation : v.running.station = s.running.station := by rw [hv]
  have hclaims : claimsHeld v.queue.requests = claimsHeld s.queue.requests := by
    rw [hqueue, ha]
    exact claimsHeld_placeIn_other _ (by simp [keyKind])
  obtain ⟨b', hb'⟩ : ∃ b', b' = if e.status = .sent then v else v.withdraw (.offer e.tag) := ⟨_, rfl⟩
  have hbb : b'.queue = b.queue ∧ b'.link = b.link ∧ b'.now = b.now := by
    rw [hb', hb]
    split
    · exact ⟨hqueue, hlink, hnow⟩
    · exact ⟨(State.withdraw_congr hqueue hlink _).1, (State.withdraw_congr hqueue hlink _).2, hnow⟩
  obtain ⟨c', hc'⟩ : ∃ c', c' = if e.status ≠ .queued ∧ claimsHeld v.queue.requests < 8 then
    b'.placeClaim v.running.station e.tag .foreign else b' := ⟨_, rfl⟩
  have hcc : c'.queue = c.queue ∧ c'.link = c.link := by
    rw [hc', hc, hclaims, hstation]
    split
    · exact ⟨State.placeClaim_queue_congr hbb.1 hbb.2.2 _ _ _, hbb.2.1⟩
    · exact ⟨hbb.1, hbb.2.1⟩
  rw [v.dealWithMatch_own e hb' hc', hcc.1, hcc.2]
  have hframe := congrArg (fun u : State => ({ u with
    lanes := (v.setTallies e.lane (Tallies.addRelocatedOut e.count)).lanes
    matcher := { u.matcher with pendingOut := u.matcher.pendingOut.filter fun x => decide (x.tag ≠ e.tag) }
    queue := c.queue, link := c.link } : State)) hv
  exact hframe

end

section

variable {s : State} {l : Lane} {code : BitVec 24} {first : Bool} {g : Int} {w : List Int} {x : Sample} {d : Int} {f : Figures}
  {report : SettleReport} {u : State}

theorem State.setTallies_indicatorOf (s : State) (l : Lane) (f : Tallies → Tallies) (m : Lane) :
    (s.setTallies l f).indicatorOf m = s.indicatorOf m := s.setCounting_indicatorOf l _ m

/-- A rise that matches an own entry (R73). -/
theorem SettlesWith.exec_own (h : SettlesWith s l code first g w) (hknown : (s.lane l).settler.known = true)
    (hx : x = { raw := code.toInt, cls := .inRange, grams := some g }) (hu : u = s.atSettle l x w)
    (hreport : report = SettleReport.ofFigures .foreignSet (filteredWeight w) f) {e : PendingOut}
    (htake : u.countUnit l (filteredWeight w) (s.lane l).settler.reference true =
      u.takeForeign l (filteredWeight w) d f (.own e)) {seen : Tallies}
    (hseen : seen = (s.lane l).counting.tallies.addForeignSeen) :
    ∃ t r a b c base, Machine.exec (.sampleEvent l code first) s = .next t ∧
      a = s.place (.notice l) ∧ b = (if e.status = .sent then a else a.withdraw (.offer e.tag)) ∧
      c = (if e.status ≠ .queued ∧ claimsHeld s.queue.requests < 8 then
        b.placeClaim s.running.station e.tag .foreign else b) ∧
      base = (s.lane l).withRecord x w
        (some { article := e.article, grams := d, origin := s.running.station, tag := e.tag, tol := e.tol })
        report (r.indicatorOf l) ∧
      r.lane l = { base with counting := { base.counting with
        tallies := if e.lane = l then
            { seen with relocatedOut := min 65535 (seen.relocatedOut + e.count) } else seen } } ∧
      (e.lane ≠ l → r.lane e.lane = { s.lane e.lane with counting := { (s.lane e.lane).counting with
        tallies := { (s.lane e.lane).counting.tallies with
          relocatedOut := min 65535 ((s.lane e.lane).counting.tallies.relocatedOut + e.count) } } }) ∧
      (∀ m, m ≠ l → m ≠ e.lane → r.lane m = s.lane m) ∧
      r.matcher = { s.matcher with
        pendingOut := s.matcher.pendingOut.filter (fun x => decide (x.tag ≠ e.tag)) } ∧
      r = { s with lanes := r.lanes, matcher := r.matcher, queue := c.queue, link := c.link } ∧
      t = { State.evaluateAll r (articleSlot s.running e.article).toList with
        frontEnd := s.frontEnd.afterChange r.quiet } := by
  obtain ⟨v, hv⟩ : ∃ v, v = u.foreignSet l
    { article := e.article, grams := d, origin := s.running.station, tag := e.tag, tol := e.tol } report := ⟨_, rfl⟩
  have hvframe : v = { s with lanes := v.lanes, queue := (s.place (.notice l)).queue } := by rw [hv, hu]; rfl
  obtain ⟨r, hr⟩ : ∃ r, r = (v.dealWithMatch (.own e)).1 := ⟨_, rfl⟩
  have hframe := hr.trans (own_entry_leaves hvframe e rfl rfl rfl)
  have hlanes : ∀ m, r.lane m = (v.setTallies e.lane (Tallies.addRelocatedOut e.count)).lane m := fun m => by
    rw [hframe]
    rfl
  have hshown : r.indicatorOf l = v.indicatorOf l := by
    refine Eq.trans ?_ (v.setTallies_indicatorOf e.lane (Tallies.addRelocatedOut e.count) l)
    refine State.indicatorOf_congr ?_ ?_ ⟨_, _, congrArg LaneUnit.notice (hlanes l)⟩ fun _ => State.alertOfLane_congr ?_ ?_ l
    · rw [hframe, hvframe]
      rfl
    · rw [hframe, hvframe]
      rfl
    · rw [hframe, hvframe]
      rfl
    · intro i
      rw [hframe, hvframe]
      rfl
  have hvl := State.foreignSet_withRecord hknown x w _ report (hu ▸ hv) rfl
  have hvothers : ∀ m, m ≠ l → v.lane m = s.lane m := fun m hm => by
    rw [hv, State.foreignSet_lane_of_ne _ _ _ _ hm, hu, State.atSettle_lane_of_ne _ _ _ hm]
  have hself : r.lane l = { v.lane l with counting := { (v.lane l).counting with
      tallies := if e.lane = l then { seen with relocatedOut := min 65535 (seen.relocatedOut + e.count) } else seen } } := by
    rw [hlanes]
    by_cases hl : e.lane = l
    · subst hl
      rw [State.setTallies_lane_self, hvl, if_pos rfl, hseen]
      rfl
    · rw [State.setTallies_lane_of_ne _ _ (Ne.symm hl), if_neg hl, hvl, hseen]
  have hrl : r.lane l = { (s.lane l).withRecord x w
      (some { article := e.article, grams := d, origin := s.running.station, tag := e.tag, tol := e.tol }) report
      (r.indicatorOf l) with counting := { ((s.lane l).withRecord x w
      (some { article := e.article, grams := d, origin := s.running.station, tag := e.tag, tol := e.tol }) report
      (r.indicatorOf l)).counting with tallies := if e.lane = l then
        { seen with relocatedOut := min 65535 (seen.relocatedOut + e.count) } else seen } } := by
    rw [hself, hvl, hshown]
  have hothers : ∀ m, m ≠ l → (r.lane m).settler.state = (s.lane m).settler.state := fun m hm => by
    rw [hlanes, v.setTallies_sameButTallies e.lane _ m, hvothers m hm]
  have hexec := h.exec_foreign hknown hx hu r (owed := (articleSlot s.running e.article).toList)
    (by
      have howed : (v.dealWithMatch (.own e)).2 = (articleSlot s.running e.article).toList :=
        congrArg (fun cfg => (articleSlot cfg e.article).toList) (show v.running = s.running by rw [hvframe])
      rw [htake, State.takeForeign_eq, ← hreport, hr, ← howed, hv, hu]
      rfl)
    (by rw [hframe]) (by rw [hrl]; rfl) hothers
  refine ⟨_, r, _, _, _, _, hexec, rfl, rfl, rfl, rfl, hrl, fun hl => ?_, fun m hm hne => ?_, ?_, ?_, rfl⟩
  · rw [hlanes, State.setTallies_lane_self, hvothers _ hl]
    rfl
  · rw [hlanes, State.setTallies_lane_of_ne _ _ hne, hvothers m hm]
  · rw [hframe]
  · have hl : r.lanes = (v.setTallies e.lane (Tallies.addRelocatedOut e.count)).lanes := by rw [hframe]
    have hm : r.matcher = { s.matcher with
      pendingOut := s.matcher.pendingOut.filter fun x => decide (x.tag ≠ e.tag) } := by rw [hframe]
    rw [hl, hm]
    exact hframe

/-- A rise that matches a heard offer (R73). -/
theorem SettlesWith.exec_heard (h : SettlesWith s l code first g w) (hknown : (s.lane l).settler.known = true)
    (hx : x = { raw := code.toInt, cls := .inRange, grams := some g }) (hu : u = s.atSettle l x w)
    (hreport : report = SettleReport.ofFigures .foreignSet (filteredWeight w) f) {e : HeardOffer}
    (htake : u.countUnit l (filteredWeight w) (s.lane l).settler.reference true =
      u.takeForeign l (filteredWeight w) d f (.heard e)) {seen : Tallies}
    (hseen : seen = (s.lane l).counting.tallies.addForeignSeen) :
    ∃ t a base, Machine.exec (.sampleEvent l code first) s = .next t ∧ a = s.place (.notice l) ∧
      base = (s.lane l).withRecord x w
        (some { article := e.article, grams := d, origin := e.station, tag := e.tag, tol := e.tol }) report
        (t.indicatorOf l) ∧
      t.lane l = { base with counting := { base.counting with tallies := seen } } ∧
      (∀ m, m ≠ l → t.lane m = s.lane m) ∧
      (claimsHeld s.queue.requests < 8 →
        t.queue = (a.placeClaim e.station e.tag .foreign).queue ∧
        t.matcher = { s.matcher with heard := s.matcher.heard.map (fun x =>
          if x.station = e.station ∧ x.tag = e.tag then
            { x with claimStatus := .queued, claimType := some .foreign, claimLane := none }
          else x) }) ∧
      (8 ≤ claimsHeld s.queue.requests → t.queue = a.queue ∧ t.matcher = s.matcher) ∧
      t = { s with
        lanes := t.lanes, matcher := t.matcher, queue := t.queue
        frontEnd := s.frontEnd.afterChange t.quiet } := by
  obtain ⟨v, hv⟩ : ∃ v, v = u.foreignSet l
    { article := e.article, grams := d, origin := e.station, tag := e.tag, tol := e.tol } report := ⟨_, rfl⟩
  have hvframe : v = { s with lanes := v.lanes, queue := (s.place (.notice l)).queue } := by rw [hv, hu]; rfl
  have hqueue : v.queue = (s.place (.notice l)).queue := by rw [hvframe]
  have hmatcher : v.matcher = s.matcher := by rw [hvframe]
  have hroom : v.claimRoom = true ↔ claimsHeld s.queue.requests < 8 := by
    unfold State.claimRoom
    rw [decide_eq_true_eq, hqueue, State.place_requests, claimsHeld_placeIn_other _ (by simp [keyKind])]
  obtain ⟨r, hr⟩ : ∃ r, r = if v.claimRoom then v.claimHeard e .foreign none else v := ⟨_, rfl⟩
  have hframe : r = { v with queue := r.queue, matcher := r.matcher } := by
    rw [hr]
    split <;> rfl
  have hlanes : ∀ m, r.lane m = v.lane m := fun m => by
    rw [hframe]
    rfl
  have hshown : r.indicatorOf l = v.indicatorOf l := by
    rw [hframe]
    rfl
  have hrl := State.foreignSet_withRecord hknown x w _ report (hu ▸ hv) (hshown ▸ rfl :
    (s.lane l).withRecord x w (some { article := e.article, grams := d, origin := e.station, tag := e.tag, tol := e.tol })
      report (r.indicatorOf l) = _)
  rw [← hlanes, ← hseen] at hrl
  have hothers : ∀ m, m ≠ l → r.lane m = s.lane m := fun m hm => by
    rw [hlanes, hv, State.foreignSet_lane_of_ne _ _ _ _ hm, hu, State.atSettle_lane_of_ne _ _ _ hm]
  have hexec := h.exec_foreign hknown hx hu r (owed := [])
    (by
      rw [htake, State.takeForeign_eq, ← hreport, hr, hv, hu]
      rfl)
    (by rw [hframe, hvframe]) (by rw [hrl]; rfl) fun m hm => by rw [hothers m hm]
  rw [State.evaluateAll_nil] at hexec
  refine ⟨_, _, _, hexec, rfl, rfl, hrl, hothers, fun h8 => ?_, fun h8 => ?_, ?_⟩
  · have hclaim : r = v.claimHeard e .foreign none := hr.trans (if_pos (hroom.mpr h8))
    refine ⟨?_, ?_⟩
    · show r.queue = _
      rw [hclaim]
      exact State.placeClaim_queue_congr hqueue (by rw [hvframe]; rfl) _ _ _
    · show r.matcher = _
      rw [hclaim, ← hmatcher]
      rfl
  · have hnone : r = v := hr.trans (if_neg fun hc => by have := hroom.mp hc; omega)
    exact ⟨(congrArg State.queue hnone).trans hqueue, (congrArg State.matcher hnone).trans hmatcher⟩
  · have hboth := congrArg (fun u : State => ({ u with
      queue := r.queue, matcher := r.matcher, lanes := r.lanes, frontEnd := s.frontEnd.afterChange r.quiet } : State)) hvframe
    have hself := congrArg (fun u : State => ({ u with
      lanes := r.lanes, frontEnd := s.frontEnd.afterChange r.quiet } : State)) hframe
    exact hself.trans hboth

end

/-- Settles O28: the own entry, the heard offer, the fall. -/
theorem foreignItemSetsAndClearsRecord : Obligations.ForeignItemSetsAndClearsRecord := by
  intro s l code first g w h hknown F d hF hd settled hsettled
  subst hF hd
  obtain ⟨x, hx⟩ : ∃ x : Sample, x = { raw := code.toInt, cls := .inRange, grams := some g } := ⟨_, rfl⟩
  have hbase : settled = fun record report shown => (s.lane l).withRecord x w record report shown := by
    rw [hsettled, hx]
    rfl
  clear hsettled
  subst hbase
  obtain ⟨u, hu⟩ : ∃ u, u = s.atSettle l x w := ⟨_, rfl⟩
  have hlane : u.lane l = { (s.lane l).sampled x with settler := (s.lane l).settler.atSettle w (filteredWeight w) } :=
    hu ▸ s.atSettle_lane_self l x w
  have hothers : ∀ m, m ≠ l → u.lane m = s.lane m := fun m hm => hu ▸ s.atSettle_lane_of_ne x w hm
  refine ⟨fun hforeign f hf hrejected hrise seen hseen report hreport => ?_, fun r hr hfall hfit => ?_⟩
  · have hset : ∀ m, u.foreignSearch l (filteredWeight w - (s.lane l).settler.reference) = some m →
        u.countUnit l (filteredWeight w) (s.lane l).settler.reference true =
          u.takeForeign l (filteredWeight w) (filteredWeight w - (s.lane l).settler.reference) f m := fun m hm =>
      State.countUnit_sets (by rw [hlane]; exact hforeign) (by
        rw [hf, hu, State.atSettle_foreignGrams]
        unfold State.foreignGrams
        rw [hforeign]
        rfl) hrejected hrise hm
    refine ⟨fun e he => ?_, fun e hown he => ?_⟩
    · exact h.exec_own hknown hx hu hreport (hset _ (State.foreignSearch_own (by rw [hu]; exact he))) hseen
    · exact h.exec_heard hknown hx hu hreport (hset _ (State.foreignSearch_heard (by rw [hu]; exact hown) (by
        rw [hu]; exact he))) hseen
  · have hclear : u.countUnit l (filteredWeight w) (s.lane l).settler.reference true =
        (u.clearForeign l (filteredWeight w)).evaluateAll [] := by
      rw [State.countUnit_clears (r := r) (by rw [hlane]; exact hr) hfall (hu ▸ hfit), State.evaluateAll_nil]
    have hexec := h.exec_foreign hknown hx hu (u.clearForeign l (filteredWeight w)) hclear (by rw [hu]; rfl) (by
      rw [State.clearForeign_lane_self, hlane]; rfl) fun m hm => by
        rw [State.clearForeign_lane_of_ne _ _ _ hm, hothers m hm]
    rw [State.evaluateAll_nil] at hexec
    refine ⟨_, hexec, ?_, fun m hm => ?_, ?_⟩
    · refine (u.clearForeign_lane_self l (filteredWeight w)).trans ?_
      rw [hlane, Settler.atSettle_of_known hknown]
      rfl
    · exact (u.clearForeign_lane_of_ne l _ hm).trans (hothers m hm)
    · rw [hu]
      rfl

end Sys2Proof.Machine
end

section
/-! The transmit queue's placement and withdrawal (section 8.3), built frames (sections 7.3 and 12.1), and the link's own events
(sections 7.2, 7.3 and 7.5). -/

namespace Sys2Proof.Machine

open Sys2Proof.Config

/-! ## Placement and withdrawal (R139 to R141) -/

section

variable {now : Nat} {k : RequestKey} {type : Option ClaimType} {q : List Request}

theorem placeIn_new (h : k ∉ q.map Request.key) : placeIn now k type q =
    q ++ [{ key := k, age := now, inFlight := false, renewal := none, claimType := type }] := by
  refine if_neg ?_
  rw [List.any_eq_true]
  rintro ⟨r, hr, hk⟩
  exact h (List.mem_map.mpr ⟨r, hr, of_decide_eq_true hk⟩)

theorem placeIn_held (h : k ∈ q.map Request.key) :
    placeIn now k type q = q.map fun r => if r.key = k then r.renew now else r := by
  obtain ⟨r, hr, hk⟩ := List.mem_map.mp h
  exact if_pos (List.any_eq_true.mpr ⟨r, hr, decide_eq_true hk⟩)

/-- Every request is in the list after a placement, with a renewal mark where it takes one. -/
theorem mem_placeIn_of_mem {r : Request} (hr : r ∈ q) :
    (if r.key = k then r.renew now else r) ∈ placeIn now k type q := by
  by_cases h : k ∈ q.map Request.key
  · rw [placeIn_held h]
    exact List.mem_map.mpr ⟨r, hr, rfl⟩
  · rw [placeIn_new h, if_neg fun hk => h (List.mem_map.mpr ⟨r, hr, hk⟩)]
    exact List.mem_append_left _ hr

end

/-- Settles O45. -/
theorem placementCoalescesAndWithdrawalDetaches : Obligations.PlacementCoalescesAndWithdrawalDetaches := by
  intro s k hkeys
  refine ⟨placeIn_new, fun h => ?_, fun r hr hstands => ?_, fun r hr hk hflight hnew => ?_, rfl,
    fun station tag type hk hnew => ?_, rfl, fun f r hf hr hk hfk hflight => ?_, fun f hf hfk => ?_, rfl⟩
  · rw [State.place_requests, placeIn_keys, if_pos h]
  · have hmem := mem_placeIn_of_mem (now := s.now) (k := k) (type := none) hr
    have hsame : (if r.key = k then r.renew s.now else r) = r := by
      unfold Request.renew
      rcases hstands with h | h | h
      · exact if_neg h
      · simp [h]
      · obtain ⟨m, hm⟩ := Option.isSome_iff_exists.mp h
        split
        · split
          · rw [hm, Option.getD_some, ← hm]
          · rfl
        · rfl
    rwa [hsame] at hmem
  · have hmem := mem_placeIn_of_mem (now := s.now) (k := k) (type := none) hr
    rw [if_pos hk] at hmem
    unfold Request.renew at hmem
    rwa [if_pos hflight, hnew] at hmem
  · subst hk
    exact placeIn_new hnew
  · have hheld : s.queue.requests.any (fun r => decide (r.key = k) && r.inFlight) = true :=
      List.any_eq_true.mpr ⟨r, hr, by simp [hk, hflight]⟩
    rw [State.withdraw_eq, hf, hheld]
    exact congrArg some (if_pos ⟨hfk, rfl⟩)
  · rw [State.withdraw_eq, hf]
    exact congrArg some (if_neg fun h => hfk h.1)

/-! ## Built frames (R122, section 12.1) -/

theorem coveredChars_length (f : Frame) : (coveredChars f).length = 3 + (payloadBytes f.payload).length := by
  simp [coveredChars]
  omega

theorem kindLength_kindCode (p : Payload) : kindLength (kindCode p) = some (payloadBytes p).length := by
  cases p <;> rfl

theorem lengthChar_toNat (p : Payload) : (BitVec.ofNat 8 (payloadBytes p).length).toNat = (payloadBytes p).length := by
  have := payloadBytes_length_le p
  rw [BitVec.toNat_ofNat, Nat.mod_eq_of_lt (by omega)]

theorem kindChar_toNat (p : Payload) : (BitVec.ofNat 8 (kindCode p)).toNat = kindCode p := by
  cases p <;> rfl

theorem frameChars_complete (f : Frame) : frameComplete (frameChars f) = true := by
  have hlen := frameChars_length f
  have hle := payloadBytes_length_le f.payload
  unfold frameChars coveredChars at hlen ⊢
  simp only [List.cons_append, List.nil_append] at hlen ⊢
  unfold frameComplete
  dsimp only
  rw [lengthChar_toNat, Bool.and_eq_true, decide_eq_true_eq, decide_eq_true_eq]
  omega

theorem frameChars_valid (f : Frame) : frameValid (frameChars f) = true := by
  have hsplit : (frameChars f).length - 2 = (coveredChars f).length := by
    rw [frameChars_length, coveredChars_length]
    omega
  have htake : (frameChars f).take ((frameChars f).length - 2) = coveredChars f := by
    rw [hsplit]
    exact List.take_left
  have hdrop : (frameChars f).drop ((frameChars f).length - 2) = u16 (checkOf (coveredChars f)).toNat := by
    rw [hsplit]
    exact List.drop_left
  have hcomplete := frameChars_complete f
  obtain ⟨rest, hchars⟩ : ∃ rest, frameChars f = BitVec.ofNat 8 (kindCode f.payload) :: f.station ::
      BitVec.ofNat 8 (payloadBytes f.payload).length :: rest := ⟨_, rfl⟩
  have hvalid : frameValid (frameChars f) = (frameComplete (frameChars f) &&
      decide (kindLength (BitVec.ofNat 8 (kindCode f.payload)).toNat =
        some (BitVec.ofNat 8 (payloadBytes f.payload).length).toNat) &&
      decide (u16 (checkOf ((frameChars f).take ((frameChars f).length - 2))).toNat =
        (frameChars f).drop ((frameChars f).length - 2))) := by
    rw [hchars]
    rfl
  rw [hvalid, hcomplete, htake, hdrop, lengthChar_toNat, kindChar_toNat, kindLength_kindCode]
  simp

/-- Settles O51. -/
theorem builtFramesAreValid : Obligations.BuiltFramesAreValid := fun f =>
  ⟨frameChars_complete f, frameChars_valid f, frameChars_length f, frameChars_length_le f, rfl, rfl,
    kindLength_kindCode f.payload⟩

/-! ## The link's own events (R120 to R122, R131, R132) -/

theorem exec_framingError_of {s : State} {cause : FramingError} (h : s.link.meetsError cause = true) :
    exec (.framingError cause) s = .next { s with link := { s.link.awaitIdle with
      recessiveCount := s.link.countAt (recessiveAfterError cause), spacing := false } } :=
  congrArg Host.Outcome.next (if_pos h)

theorem exec_framingError_not {s : State} {cause : FramingError} (h : s.link.meetsError cause = false) :
    exec (.framingError cause) s = .next s :=
  congrArg Host.Outcome.next (if_neg (by simp [h]))

theorem Link.listens_iff (k : Link) : k.listens = true ↔
    k.state ≠ .off ∧ k.flight = none ∧ k.receiver ≠ .stopped ∧ k.receiver ≠ .waitingForIdle := by
  unfold Link.listens
  simp [and_assoc]

theorem Link.meetsError_of_deaf {k : Link} (h : k.listens = false) (cause : FramingError) : k.meetsError cause = false := by
  cases cause <;> unfold Link.meetsError <;> rw [h] <;> rfl

theorem Link.meetsError_of {k : Link} (h : k.listens = true) {cause : FramingError}
    (hstop : cause = .stopBitDominant → k.bits.length < 10 ∨ k.bits.getLast? = some false)
    (hstart : cause = .startBitRecessive → k.bits.length < 10)
    (hlength : ∀ n, cause = .lengthAbove12 n → k.receiver = .searching ∨ k.buffer.length < 2 ∧ k.bits.length < 10 ∨
      k.buffer.length = 2 ∧ k.bits <+: charBits n) : k.meetsError cause = true := by
  unfold Link.meetsError Link.sampled
  rw [h]
  cases cause with
  | stopBitDominant =>
    rcases hstop rfl with hb | hb
    · simp [hb]
    · rw [List.getLastD_eq_getLast?, hb]
      simp
  | startBitRecessive => simpa using hstart rfl
  | lengthAbove12 n => simpa [or_assoc] using hlength n rfl

theorem Link.countAt_sampled {k : Link} (h : 10 ≤ k.bits.length) (n : Nat) : k.countAt n = k.recessiveCount :=
  if_pos (decide_eq_true h)

theorem Link.countAt_of_lt {k : Link} (h : k.bits.length < 10) (n : Nat) : k.countAt n = n :=
  if_neg (by simp [Link.sampled, h])

theorem exec_invalidFrameDropped_of {s : State} {frame : List Byte} (h : s.link.assembles frame = true) :
    exec (.invalidFrameDropped frame) s = .next { s with link := s.link.completed frame } :=
  congrArg Host.Outcome.next (if_pos h)

theorem exec_invalidFrameDropped_not {s : State} {frame : List Byte} (h : s.link.assembles frame = false) :
    exec (.invalidFrameDropped frame) s = .next s :=
  congrArg Host.Outcome.next (if_neg (by simp [h]))

/-- Settles O49. -/
theorem linkStatesAndLineEvents : Obligations.LinkStatesAndLineEvents := by
  intro s
  refine ⟨fun h1 h2 => ?_, fun h => ?_, fun h1 h2 h3 => ?_, fun h => ?_, fun h1 h2 h3 => ?_, fun h => ?_,
    fun h1 h2 h3 h4 cause hstop hstart hlength => ?_, fun frame h => ?_, fun frame hs hp => ?_, fun h => ?_⟩
  · exact congrArg Host.Outcome.next (if_pos ⟨h1, by rw [h2]; rfl⟩)
  · refine congrArg Host.Outcome.next (if_neg fun ⟨hstate, hdue⟩ => h.elim (fun h => h hstate) fun h => h ?_)
    exact (Timer.due_iff _).mp hdue
  · refine (congrArg Host.Outcome.next (if_pos ⟨h1, h2, h3⟩)).trans ?_
    cases s.settlingIn <;> rfl
  · exact congrArg Host.Outcome.next (if_neg fun ⟨hstate, hflight, hcount⟩ => by
      rcases h with h | h | h
      · exact h hstate
      · exact h hflight
      · omega)
  · exact congrArg Host.Outcome.next (if_pos ⟨h1, h2, h3⟩)
  · exact congrArg Host.Outcome.next (if_neg fun ⟨hstate, hflight, hcount⟩ => by
      rcases h with h | h | h
      · exact hstate h
      · exact h hflight
      · omega)
  · refine ⟨_, exec_framingError_of (Link.meetsError_of ((Link.listens_iff _).mpr ⟨h1, h2, h3, h4⟩) hstop hstart hlength),
      rfl, fun hcause hbits => ?_, fun hbits => Link.countAt_sampled hbits _⟩
    refine (Link.countAt_of_lt hbits _).trans ?_
    cases cause with
    | stopBitDominant | startBitRecessive => rfl
    | lengthAbove12 n => exact absurd rfl (hcause n)
  · exact ⟨_, exec_invalidFrameDropped_of ((Link.assembles_iff s frame).mpr h), rfl,
      fun hbits => Link.countAt_sampled hbits _⟩
  · refine exec_invalidFrameDropped_not ?_
    unfold Link.assembles Link.heard
    have hprefix : (s.link.buffer.flatMap charBits ++ s.link.bits).isPrefixOf (frame.flatMap charBits) = false :=
      Bool.eq_false_iff.mpr fun h => hp (List.isPrefixOf_iff_prefix.mp h)
    rw [hprefix]
    simp [hs]
  · have hdeaf : s.link.listens = false := Bool.eq_false_iff.mpr fun hl => by
      obtain ⟨-, hflight, hstopped, hwaiting⟩ := (Link.listens_iff _).mp hl
      rcases h with h | h | h
      · exact hwaiting h
      · exact hstopped h
      · exact h hflight
    refine ⟨fun cause => exec_framingError_not (Link.meetsError_of_deaf hdeaf cause), fun frame =>
      exec_invalidFrameDropped_not ?_⟩
    unfold Link.assembles
    rw [hdeaf]
    rfl

end Sys2Proof.Machine
end

section
/-! Restarts, the start decision, and STORE and START (sections 9.7 and 10.1 to 10.6), over what a command byte at the port
does first (section 9.3). -/

namespace Sys2Proof.Machine

open Sys2Proof.Config

/-! ## A command byte that is taken (R148, R150) -/

/-- The port after a byte's eighth rising edge, before the byte is taken (R148, R149). -/
def Port.shifted (p : Port) : Port :=
  { p with bitCount := 0, incoming := [], fallDue := true, outgoing := if p.byteDue = true then p.nextOut else p.outgoing }

/-- The state in which a command byte acts: the byte shifted, the previous command ended (R148, R150). -/
def State.atCommand (s : State) : State := State.endPrevious { s with port := s.port.shifted }

theorem State.endPrevious_frame (s : State) : s.endPrevious = { s with port := s.endPrevious.port } := by
  unfold State.endPrevious
  dsimp only
  split
  · split <;> rfl
  · rfl

theorem State.endPrevious_operation (s : State) : s.endPrevious.port.operation = s.port.operation := by
  unfold State.endPrevious
  dsimp only
  split
  · split <;> rfl
  · rfl

theorem State.atCommand_frame (s : State) : s.atCommand = { s with port := s.atCommand.port } :=
  State.endPrevious_frame _

theorem State.atCommand_operation (s : State) : s.atCommand.port.operation = s.port.operation :=
  State.endPrevious_operation _

/-- With no command waiting nothing is discarded as INCOMPLETE (R150). -/
theorem State.atCommand_idle {s : State} (h : s.port.command = .none ∨ s.port.command = .ignoring) :
    s.atCommand = { s with port := s.port.shifted.idle } := by
  unfold State.atCommand State.endPrevious
  dsimp only
  rw [show s.port.shifted.command = s.port.command from rfl]
  rcases h with h | h <;> rw [h]

section

variable {s : State} {c : PortCommand} (body : State → State) (hsel : s.pins.cpselLow = true)
  (hnode : s.startUp.node ≠ .starting) (hforms : Forms s (BitVec.ofNat 8 (commandCode c)))

include hsel hnode hforms

theorem State.takeCommand_eq : s.takeCommand c body =
    if s.port.operation ≠ .none ∧ c ≠ .readStatus then s.atCommand.ignore .busy 0
    else if s.startUp.node = .run ∧ configuringOnly c = true then s.atCommand.ignore .refusedState 0
    else body s.atCommand := by
  have hstart : s.atCommand.startUp = s.startUp := by rw [State.atCommand_frame]
  refine (State.takeByte_eq _ hsel hnode hforms).trans ?_
  show (if s.atCommand.port.operation ≠ .none ∧ c ≠ .readStatus then s.atCommand.ignore .busy 0
    else if s.atCommand.startUp.node = .run ∧ configuringOnly c = true then s.atCommand.ignore .refusedState 0
    else body s.atCommand) = _
  rw [State.atCommand_operation, hstart]

theorem State.takeCommand_body (hop : s.port.operation = .none ∨ c = .readStatus)
    (hrun : s.startUp.node ≠ .run ∨ configuringOnly c = false) : s.takeCommand c body = body s.atCommand := by
  rw [State.takeCommand_eq body hsel hnode hforms, if_neg fun h => hop.elim h.1 h.2,
    if_neg fun h => hrun.elim (fun g => g h.1) fun g => by rw [g] at h; cases h.2]

end

/-! ## Restarts (R164, R168) -/

/-- What a restart leaves, from the state before its command: the blocks cleared, the cause recorded, the delay started or held,
a STORE stopped. -/
def RestartClears (s : State) (cause : RestartCause) (held : Bool) (t : State) : Prop :=
  AtRest t ∧ t.startUp.node = .starting ∧ t.startUp.cause = cause ∧ t.startUp.indicatorClock = none ∧
  t.startUp.storePhase = .none ∧ t.startUp.startDelay = (if held = true then .stopped else .running 25000) ∧
  (s.startUp.storePhase = .none →
    t.startUp.image = s.startUp.image ∧ t.startUp.markerValid = s.startUp.markerValid) ∧
  (s.startUp.storePhase ≠ .none → t.startUp.markerValid = false) ∧
  (s.startUp.storePhase = .markerCleared → t.startUp.image = s.startUp.image) ∧
  t.port = Port.cleared ∧ t.frontEnd.shockLatch = false ∧ t.frontEnd.supplyHold = false ∧
  t.frontEnd.dipFilter = .stopped ∧ t.frontEnd.excitation = .good ∧ t.frontEnd.badRun = 0 ∧
  t.frontEnd.goodRun = 0 ∧ t.frontEnd.roundTimer = .stopped ∧
  (∀ l, (t.lane l).warmUp = 8 ∧ (t.lane l).lastSample = { raw := 0, cls := .rawOnly, grams := none }) ∧
  t.pending = s.pending ∧ t.pins.cpselLow = s.pins.cpselLow

/-- A STORE in progress is stopped with the marker INVALID, its image kept before the WRITING phase (R168). -/
theorem State.stoppedStore_spec (s : State) : s.stoppedStore.storePhase = .none ∧
    (s.startUp.storePhase = .none →
      s.stoppedStore.image = s.startUp.image ∧ s.stoppedStore.markerValid = s.startUp.markerValid) ∧
    (s.startUp.storePhase ≠ .none → s.stoppedStore.markerValid = false) ∧
    (s.startUp.storePhase = .markerCleared → s.stoppedStore.image = s.startUp.image) := by
  unfold State.stoppedStore
  cases h : s.startUp.storePhase <;> simp [h]

/-- A restart from a state that has the part's start-up block, but for the record of the cause. -/
theorem State.restart_clears {s u : State} {lost : Bool} (hstart : u.startUp = { s.startUp with causeLost := lost })
    (hpending : u.pending = s.pending) (hsel : u.pins.cpselLow = s.pins.cpselLow) (cause : RestartCause) {held : Bool}
    (hheld : u.pins.held = held) : RestartClears s cause held (u.restart cause) := by
  obtain ⟨hphase, hnone, hmarker, himage⟩ := u.stoppedStore_spec
  rw [hstart] at hnone hmarker himage
  refine ⟨u.restart_atRest cause, rfl, rfl, rfl, hphase, ?_, hnone, hmarker, himage, rfl, rfl, rfl, rfl, rfl, rfl, rfl, rfl,
    fun l => ?_, hpending, hsel⟩
  · rw [← hheld]
    rfl
  · rw [State.restart_lane]
    exact ⟨rfl, rfl⟩

theorem Pins.held_of_supplied {p : Pins} (h : p.vdd = .belowHold ∨ p.vdd = .atHold) : p.held = p.resetnLow := by
  unfold Pins.held
  rcases h with h | h <;> rw [h] <;> simp

/-- Settles O58. -/
theorem restartsClearEveryBlock : Obligations.RestartsClearEveryBlock := by
  intro s cleared hcleared
  have hspec : cleared = RestartClears s := hcleared
  clear hcleared
  subst hspec
  refine ⟨fun hsel hnode hforms hop hvdd => ?_, fun high => ?_, ?_, ?_, fun hnode hdelay => ⟨?_, fun high => ?_⟩⟩
  · have hframe := s.atCommand_frame
    refine ⟨_, congrArg Host.Outcome.next (State.takeCommand_body _ hsel hnode hforms (.inl hop) (.inr rfl)), ?_, ?_⟩
    · exact State.restart_clears (lost := s.startUp.causeLost) (by rw [hframe]) (by rw [hframe]) (by rw [hframe]) .command
        (by rw [hframe]; exact Pins.held_of_supplied hvdd)
    · show s.atCommand.pins = s.pins
      rw [hframe]
  · refine ⟨_, rfl, State.restart_clears (u := { s with
      pins := { s.pins with vdd := vddOf high }, startUp := { s.startUp with causeLost := false } })
      (lost := false) rfl rfl rfl .powerOn (Pins.held_of_supplied ?_), rfl⟩
    cases high
    · exact .inl rfl
    · exact .inr rfl
  · refine ⟨_, rfl, State.restart_clears (u := { s with pins := { s.pins with
      vdd := if s.pins.vdd = .belowRetention then .belowRetention else .belowRestart } })
      (lost := s.startUp.causeLost) rfl rfl rfl .supplyDip ?_, rfl⟩
    unfold Pins.held
    by_cases h : s.pins.vdd = .belowRetention <;> simp [h]
  · refine ⟨_, rfl, State.restart_clears (u := { s with pins := { s.pins with resetnLow := true } })
      (lost := s.startUp.causeLost) rfl rfl rfl .pin ?_, rfl⟩
    unfold Pins.held
    simp
  · exact congrArg Host.Outcome.next (if_pos ⟨hnode, hdelay⟩)
  · exact congrArg Host.Outcome.next (if_pos ⟨hnode, hdelay⟩)

/-! ## RUN entry (R170) -/

theorem mem_enabledLanes (cfg : NodeConfig) (l : Lane) : l ∈ enabledLanes cfg ↔ laneEnabled cfg l = true := by
  unfold enabledLanes
  rw [List.mem_filter]
  exact ⟨fun h => h.2, fun h => ⟨mem_allLanes l, h⟩⟩

theorem LaneUnit.atRunEntry_eq (enabled supplyHold : Bool) (u : LaneUnit) : u.atRunEntry enabled supplyHold =
    { warmUp := 8, lastSample := u.lastSample, foreign := none
      settler :=
        { state := if enabled = true then (if supplyHold = true then some .held else some .moving) else none
          window := [], reference := 0, settleCounter := 0, motionRun := 0, known := false, holdTimer := .stopped
          supplyWait := enabled && supplyHold, outOfRangeRun := 0, inRangeRun := 0 }
      counting :=
        { count := 0, doubt := 0, audit := false, zeroOffset := 0, priorOffset := none
          tallies := { picks := 0, relocatedOut := 0, matchedIn := 0, restockIn := 0, foreignSeen := 0 }
          report := SettleReport.bare .none }
      notice := { audit := false, foreign := false, fault := false, timer := .stopped, indicator := .off } } := by
  cases enabled <;> cases supplyHold <;> rfl

/-- RUN entry takes every block to the state that its own rule gives it (R170). -/
theorem State.enterRun_entered (s : State) (cfg : NodeConfig) :
    RunEntered (s.enterRun cfg) cfg s.now s.frontEnd (fun l => (s.lane l).lastSample) where
  node := rfl
  running := rfl
  working := rfl
  frontEnd := rfl
  compared := mem_enabledLanes cfg
  lanes l := by rw [State.enterRun_lane, LaneUnit.atRunEntry_eq]
  matcher := rfl
  slots i := State.enterRun_slot s cfg i
  carriers := State.enterRun_carrier s cfg
  settlingIn := rfl
  queue := rfl
  link := rfl

/-- The port has no part in RUN entry. -/
theorem RunEntered.port {t : State} {cfg : NodeConfig} {now : Nat} {supply : FrontEnd} {last : Lane → Sample}
    (h : RunEntered t cfg now supply last) (p : Port) : RunEntered { t with port := p } cfg now supply last where
  node := h.node
  running := h.running
  working := h.working
  frontEnd := h.frontEnd
  compared := h.compared
  lanes := h.lanes
  matcher := h.matcher
  slots := h.slots
  carriers := h.carriers
  settlingIn := h.settlingIn
  queue := h.queue
  link := h.link

/-- RUN entry over a front end that has taken its RUN entry values already. -/
theorem RunEntered.self {t : State} {cfg : NodeConfig} {now : Nat} {supply : FrontEnd} {last : Lane → Sample}
    (h : RunEntered t cfg now supply last) : RunEntered t cfg now t.frontEnd last where
  node := h.node
  running := h.running
  working := h.working
  frontEnd := by rw [h.frontEnd]
  compared := h.compared
  lanes := by
    have hhold : t.frontEnd.supplyHold = supply.supplyHold := by rw [h.frontEnd]
    rw [hhold]
    exact h.lanes
  matcher := h.matcher
  slots := h.slots
  carriers := h.carriers
  settlingIn := h.settlingIn
  queue := h.queue
  link := h.link

/-! ## The start decision (R165) -/

theorem State.decidesRun_iff (s : State) : s.decidesRun = true ↔
    s.startUp.markerValid = true ∧ s.pins.cpselLow = false ∧ validate s.startUp.image = none := by
  unfold State.decidesRun
  simp [and_assoc]

theorem State.decisionResult_eq (s : State) :
    (∀ reason, s.startUp.markerValid = true → validate s.startUp.image = some reason →
      s.decisionResult = (.refusedCheck, reason)) ∧
    (s.startUp.markerValid = false ∨ validate s.startUp.image = none → s.decisionResult = (.ok, 0)) := by
  unfold State.decisionResult
  refine ⟨fun reason hm hv => ?_, fun h => ?_⟩
  · rw [if_pos hm, hv]
  · rcases h with h | h
    · rw [if_neg (by simp [h])]
    · rw [h]
      split <;> rfl

/-- The state after a start decision (R164, R165, R170). -/
def State.decided (s : State) : State :=
  if s.decidesRun then
    (s.enterConfiguring s.decisionCopy s.decisionResult.1 s.decisionResult.2).enterRun s.startUp.image
  else s.enterConfiguring s.decisionCopy s.decisionResult.1 s.decisionResult.2

theorem exec_startDecision {s : State} (hn : s.startUp.node = .starting) (hd : s.startUp.startDelay = .running 0) :
    exec .startDecision s = .next s.decided :=
  congrArg Host.Outcome.next (if_pos ⟨hn, by rw [hd]; rfl⟩)

/-- Settles O59. -/
theorem startDecisionEntersRunOrConfiguring : Obligations.StartDecisionEntersRunOrConfiguring := by
  intro s hn
  refine ⟨fun hd => ?_, fun hd hrests => ⟨s.decided, exec_startDecision hn hd, ?_⟩⟩
  · exact congrArg Host.Outcome.next (if_neg fun h => hd ((Timer.due_iff _).mp h.2))
  obtain ⟨hrefused, hok⟩ := s.decisionResult_eq
  have hconf := s.enterConfiguring_lane s.decisionCopy s.decisionResult.1 s.decisionResult.2
  have hatRest : AtRest s := hrests (by rw [hn]; decide)
  unfold State.decided
  by_cases hrun : s.decidesRun = true
  · rw [if_pos hrun]
    obtain ⟨hmarker, hsel, hvalid⟩ := s.decidesRun_iff.mp hrun
    have hentered := (s.enterConfiguring s.decisionCopy s.decisionResult.1 s.decisionResult.2).enterRun_entered
      s.startUp.image
    have hlane : ∀ l, ((s.enterConfiguring s.decisionCopy s.decisionResult.1 s.decisionResult.2).enterRun
        s.startUp.image).lane l = _ := hentered.lanes
    refine ⟨rfl, ⟨fun _ => ⟨hmarker, hsel, hvalid⟩, fun _ => rfl⟩, fun h => absurd rfl h, (if_pos hmarker).symm, fun _ => ?_,
      fun h => (by cases h), fun l => ?_, fun reason _ hv => ?_, fun h => ?_, rfl, rfl, rfl, rfl, rfl, rfl, rfl, rfl, rfl, rfl,
      rfl, rfl, rfl, rfl, rfl, rfl⟩
    · have hlast : (fun l => ((s.enterConfiguring s.decisionCopy s.decisionResult.1 s.decisionResult.2).lane l).lastSample) =
          fun _ => Sample.cleared := funext fun l => by rw [hconf]
      rw [hlast] at hentered
      exact hentered.self
    · rw [hlane, hconf]
      exact ⟨rfl, rfl⟩
    · rw [hvalid] at hv
      cases hv
    · exact ⟨congrArg Prod.fst (hok h), congrArg Prod.snd (hok h)⟩
  · rw [if_neg hrun]
    refine ⟨rfl, ⟨fun h => (by cases h), fun h => absurd (s.decidesRun_iff.mpr h) hrun⟩, fun _ => rfl, rfl,
      fun h => (by cases h), fun _ => ⟨State.enterConfiguring_atRest hatRest _ _ _, rfl, hconf⟩, fun l => ?_,
      fun reason hm hv => ?_, fun h => ?_, rfl, rfl, rfl, rfl, rfl, rfl, rfl, rfl, rfl, rfl, rfl, rfl, rfl, rfl, rfl, rfl⟩
    · rw [hconf]
      exact ⟨rfl, rfl⟩
    · exact ⟨congrArg Prod.fst (hrefused reason hm hv), congrArg Prod.snd (hrefused reason hm hv)⟩
    · exact ⟨congrArg Prod.fst (hok h), congrArg Prod.snd (hok h)⟩

/-! ## START's validation (R169) -/

/-- A lane fails validation with a reason (R169). -/
def FailsCheck (cfg : NodeConfig) (l : Lane) (reason : Nat) : Prop :=
  articleOfLane cfg l = 0 ∧ reason = 16 + l.number ∨
    articleOfLane cfg l ≠ 0 ∧ (laneOf cfg l).spanCaptured = false ∧ reason = 32 + l.number

theorem validateLanes_cons (cfg : NodeConfig) (l : Lane) (rest : List Lane) (reason : Nat) :
    validateLanes cfg (l :: rest) = some reason ↔
      (laneOf cfg l).enabled = true ∧ FailsCheck cfg l reason ∨
        ((laneOf cfg l).enabled = true → articleOfLane cfg l ≠ 0 ∧ (laneOf cfg l).spanCaptured = true) ∧
          validateLanes cfg rest = some reason := by
  have hstep : validateLanes cfg (l :: rest) = if (laneOf cfg l).enabled = true then
      (if articleOfLane cfg l = 0 then some (16 + l.number)
        else if (laneOf cfg l).spanCaptured = false then some (32 + l.number) else validateLanes cfg rest)
    else validateLanes cfg rest := rfl
  rw [hstep]
  unfold FailsCheck
  by_cases he : (laneOf cfg l).enabled = true
  · rw [if_pos he]
    by_cases ha : articleOfLane cfg l = 0
    · simp [he, ha, @eq_comm Nat _ reason]
    · rw [if_neg ha]
      by_cases hs : (laneOf cfg l).spanCaptured = false
      · simp [he, ha, hs, @eq_comm Nat _ reason]
      · simp [he, ha, hs]
  · simp [he]

/-- The lanes in turn: the first enabled one that fails gives the reason (R169). -/
theorem validateLanes_iff (cfg : NodeConfig) (reason : Nat) {ls : List Lane}
    (hsorted : ls.Pairwise fun a b => a.number < b.number) : validateLanes cfg ls = some reason ↔
      ∃ l ∈ ls, (laneOf cfg l).enabled = true ∧ (∀ m ∈ ls, m.number < l.number → (laneOf cfg m).enabled = true →
        articleOfLane cfg m ≠ 0 ∧ (laneOf cfg m).spanCaptured = true) ∧ FailsCheck cfg l reason := by
  induction ls with
  | nil => simp [validateLanes]
  | cons a rest ih =>
    obtain ⟨hfirst, hrest⟩ := List.pairwise_cons.mp hsorted
    rw [validateLanes_cons, ih hrest]
    constructor
    · rintro (⟨he, hfail⟩ | ⟨hpass, l, hl, he, hbefore, hfail⟩)
      · refine ⟨a, List.mem_cons_self, he, fun m hm hlt => ?_, hfail⟩
        rcases List.mem_cons.mp hm with rfl | hm
        · omega
        · have := hfirst m hm
          omega
      · refine ⟨l, List.mem_cons_of_mem _ hl, he, fun m hm hlt hme => ?_, hfail⟩
        rcases List.mem_cons.mp hm with rfl | hm
        · exact hpass hme
        · exact hbefore m hm hlt hme
    · rintro ⟨l, hl, he, hbefore, hfail⟩
      rcases List.mem_cons.mp hl with rfl | hl
      · exact .inl ⟨he, hfail⟩
      · exact .inr ⟨hbefore a List.mem_cons_self (hfirst l hl), l, hl, he,
          fun m hm => hbefore m (List.mem_cons_of_mem _ hm), hfail⟩

theorem validate_iff (cfg : NodeConfig) (reason : Nat) : validate cfg = some reason ↔
    (cfg.station = 0 ∨ 120 < cfg.station) ∧ reason = 1 ∨
    (1 ≤ cfg.station ∧ cfg.station ≤ 120) ∧
      ((∀ l, (laneOf cfg l).enabled = false) ∧ reason = 2 ∨
        ∃ l, (laneOf cfg l).enabled = true ∧
          (∀ m, m.number < l.number → (laneOf cfg m).enabled = true →
            articleOfLane cfg m ≠ 0 ∧ (laneOf cfg m).spanCaptured = true) ∧ FailsCheck cfg l reason) := by
  have hlanes : validateLanes cfg Lane.all = some reason ↔ ∃ l, (laneOf cfg l).enabled = true ∧
      (∀ m, m.number < l.number → (laneOf cfg m).enabled = true →
        articleOfLane cfg m ≠ 0 ∧ (laneOf cfg m).spanCaptured = true) ∧ FailsCheck cfg l reason := by
    rw [validateLanes_iff cfg reason (by decide)]
    simp only [mem_allLanes, true_and, true_implies]
  have hall : Lane.all.all (fun l => !cfg.lanes[l.idx].enabled) = true ↔ ∀ l, (laneOf cfg l).enabled = false := by
    rw [List.all_eq_true]
    exact ⟨fun h l => by simpa [laneOf] using h l (mem_allLanes l), fun h l _ => by simpa [laneOf] using h l⟩
  unfold validate
  by_cases hst : validStation cfg.station = false
  · rw [if_pos hst]
    have hout : ¬ (1 ≤ cfg.station ∧ cfg.station ≤ 120) := fun h => by
      rw [(validStation_iff _).mpr h] at hst
      cases hst
    have hout' : cfg.station = 0 ∨ 120 < cfg.station := by omega
    simp [hout, hout', @eq_comm Nat _ reason]
  · rw [if_neg hst]
    have hin := (validStation_iff _).mp (Bool.not_eq_false _ ▸ hst)
    have hin' : ¬ (cfg.station = 0 ∨ 120 < cfg.station) := by omega
    by_cases hnone : ∀ l, (laneOf cfg l).enabled = false
    · rw [if_pos (hall.mpr hnone)]
      simp [hin, hin', hnone, @eq_comm Nat _ reason]
    · rw [if_neg fun h => hnone (hall.mp h), hlanes]
      simp [hin, hin', hnone]

/-! ## STORE and START (R162, R167, R169, R170) -/

section

variable {s : State} (hn : s.startUp.node = .configuring) (hsel : s.pins.cpselLow = true) (hop : s.port.operation = .none)
  (hcmd : s.port.command = .none ∨ s.port.command = .ignoring)

include hn hsel hop hcmd

theorem exec_store_session (hforms : Forms s 28) :
    exec .store s = .next (State.beginStore { s with port := s.port.shifted.idle }) := by
  rw [← State.atCommand_idle hcmd]
  exact congrArg Host.Outcome.next (State.takeCommand_body (c := .store) _ hsel (by rw [hn]; decide) hforms (.inl hop)
    (.inl (by rw [hn]; decide)))

theorem exec_start_session (hforms : Forms s 29) :
    exec .start s = .next (State.beginRun { s with port := s.port.shifted.idle }) := by
  rw [← State.atCommand_idle hcmd]
  exact congrArg Host.Outcome.next (State.takeCommand_body (c := .start) _ hsel (by rw [hn]; decide) hforms (.inl hop)
    (.inl (by rw [hn]; decide)))

end

/-- Settles O57. -/
theorem storeAndStartFromASession : Obligations.StoreAndStartFromASession := by
  intro s hn
  refine ⟨fun hop hphase => ?_, fun hsel hop hcmd => ⟨fun hforms => ?_, fun reason hforms hv => ?_, fun hforms hv => ?_⟩,
    fun reason => validate_iff s.working reason⟩
  · exact ⟨_, congrArg Host.Outcome.next (if_pos ⟨hop, hphase⟩), rfl, rfl, rfl⟩
  · refine ⟨_, exec_store_session hn hsel hop hcmd hforms, fun hh => ?_, fun hh => ?_, ?_⟩ <;> unfold State.beginStore
    · rw [if_pos hh]
      exact ⟨rfl, hop, rfl⟩
    · rw [if_neg (by simp [hh])]
      exact ⟨rfl, rfl, rfl⟩
    · split <;> rfl
  · refine ⟨_, exec_start_session hn hsel hop hcmd hforms, ?_⟩
    unfold State.beginRun
    dsimp only
    rw [hv]
    exact ⟨rfl, rfl, rfl⟩
  · refine ⟨_, exec_start_session hn hsel hop hcmd hforms, ?_⟩
    unfold State.beginRun
    dsimp only
    rw [hv]
    exact ⟨(State.enterRun_entered { s with port := s.port.shifted.idle } s.working).port _, rfl, rfl, rfl, hop, rfl, rfl,
      rfl, rfl⟩

end Sys2Proof.Machine
end

section
/-! The commissioning port (sections 9.2 and 9.3): selection and framing, and the command bytes. -/

namespace Sys2Proof.Machine

open Sys2Proof.Config

/-! ## The outgoing byte (R149) -/

theorem Port.byteDue_iff (p : Port) : p.byteDue = true ↔ p.fallDue = true ∧ p.bitCount = 0 := by
  unfold Port.byteDue
  rw [Bool.and_eq_true, decide_eq_true_eq]

/-- The outgoing byte that a byte's command leaves (R149). -/
theorem Port.shifted_outgoing (p : Port) :
    p.shifted.outgoing = if p.fallDue = true ∧ p.bitCount = 0 then p.nextOut else p.outgoing := by
  unfold Port.shifted
  simp only [Port.byteDue_iff]

/-! ## Command bytes (R150) -/

/-- The command of the table that stands for a command byte. -/
def instrOf : PortCommand → Instr
  | .setStation => .setStation
  | .setLink => .setLink
  | .setNeighbours => .setNeighbours
  | .writeSlots => .writeSlots
  | .writeLanes => .writeLanes
  | .captureZero => .captureZero
  | .captureSpan => .captureSpan
  | .store => .store
  | .start => .start
  | .restart => .restart
  | .readStatus => .readStatus
  | .readLane => .readLane
  | .readSlot => .readSlot
  | .readCarriers => .readCarriers

/-- What a command byte does that is neither refused nor of another byte (R150). -/
def actionOf : PortCommand → State → State
  | .store => State.beginStore
  | .start => State.beginRun
  | .restart => fun s => s.restart .command
  | .readStatus => fun s => s.beginReply .readStatus s.statusReply
  | .readCarriers => fun s => (s.beginReply .readCarriers s.carriersReply).setResult .ok 0
  | c => State.beginCommand c

theorem exec_instrOf (c : PortCommand) (s : State) : exec (instrOf c) s = .next (s.takeCommand c (actionOf c)) := by
  cases c <;> rfl

/-- The port's last result at a command byte: INCOMPLETE where a command still waited (R150). -/
def Port.resultAfter (p : Port) : ResultCode × Nat :=
  match p.command with
  | .active c => if p.waiting c = true then (.incomplete, commandCode c) else (p.result, p.detail)
  | _ => (p.result, p.detail)

theorem State.atCommand_eq (s : State) : s.atCommand = { s with port := { s.port.shifted.idle with
    result := s.port.resultAfter.1, detail := s.port.resultAfter.2 } } := by
  unfold State.atCommand State.endPrevious Port.resultAfter
  dsimp only
  rw [show s.port.shifted.command = s.port.command from rfl]
  cases s.port.command with
  | active c =>
    dsimp only
    rw [show s.port.shifted.waiting c = s.port.waiting c from by cases c <;> rfl]
    split <;> rfl
  | _ => rfl

/-- A command with parameters in progress at position 0, with a last result (R150). -/
def State.begun (s : State) (c : PortCommand) (r : ResultCode) (d : Nat) : State := { s with
  port := { s.port with
    command := .active c, position := 0, params := [], recordBuffer := [], recordRefused := false, reply := none,
    result := r, detail := d, bitCount := 0, incoming := [], fallDue := true
    outgoing := if s.port.fallDue = true ∧ s.port.bitCount = 0 then s.port.nextOut else s.port.outgoing } }

/-- A command byte refused (R150). -/
def State.refused (s : State) (r : ResultCode) (d : Nat) : State := { s with
  port := { s.port with
    command := .ignoring, params := [], recordBuffer := [], reply := none, result := r, detail := d,
    bitCount := 0, incoming := [], fallDue := true
    outgoing := if s.port.fallDue = true ∧ s.port.bitCount = 0 then s.port.nextOut else s.port.outgoing } }

theorem State.atCommand_ignore (s : State) (r : ResultCode) (d : Nat) : s.atCommand.ignore r d = s.refused r d := by
  rw [State.atCommand_eq]
  unfold State.refused
  rw [← Port.shifted_outgoing]
  rfl

theorem State.atCommand_begin (s : State) (c : PortCommand) :
    s.atCommand.beginCommand c = s.begun c s.port.resultAfter.1 s.port.resultAfter.2 := by
  rw [State.atCommand_eq]
  unfold State.begun
  rw [← Port.shifted_outgoing]
  rfl

theorem Port.resultAfter_idle {p : Port} (h : p.command = .none ∨ p.command = .ignoring) :
    p.resultAfter = (p.result, p.detail) := by
  unfold Port.resultAfter
  rcases h with h | h <;> rw [h]

theorem Port.resultAfter_active {p : Port} {c : PortCommand} (h : p.command = .active c) :
    p.resultAfter = if p.waiting c = true then (.incomplete, commandCode c) else (p.result, p.detail) := by
  unfold Port.resultAfter
  rw [h]

section

variable {s : State} {c : PortCommand} (hsel : s.pins.cpselLow = true) (hnode : s.startUp.node ≠ .starting)
  (hforms : Forms s (BitVec.ofNat 8 (commandCode c)))

include hsel hnode hforms

theorem exec_command_busy (hc : c ≠ .readStatus) (hop : s.port.operation ≠ .none) :
    exec (instrOf c) s = .next (s.refused .busy 0) := by
  rw [exec_instrOf, State.takeCommand_eq _ hsel hnode hforms, if_pos ⟨hop, hc⟩, State.atCommand_ignore]

theorem exec_command_state (hop : s.port.operation = .none) (hrun : s.startUp.node = .run) (hc : configuringOnly c = true) :
    exec (instrOf c) s = .next (s.refused .refusedState 0) := by
  rw [exec_instrOf, State.takeCommand_eq _ hsel hnode hforms, if_neg fun h => h.1 hop, if_pos ⟨hrun, hc⟩,
    State.atCommand_ignore]

theorem exec_command_begun (hop : s.port.operation = .none) (hrun : s.startUp.node ≠ .run ∨ configuringOnly c = false)
    (hc : actionOf c = State.beginCommand c) :
    exec (instrOf c) s = .next (s.begun c s.port.resultAfter.1 s.port.resultAfter.2) := by
  rw [exec_instrOf, hc, State.takeCommand_body _ hsel hnode hforms (.inl hop) hrun, State.atCommand_begin]

/-- A command begins with no command waiting, over one that still waits, and after a completed read (R150). -/
theorem exec_command_begins (hop : s.port.operation = .none) (hrun : s.startUp.node ≠ .run ∨ configuringOnly c = false)
    (hc : actionOf c = State.beginCommand c) :
    (s.port.command = .none ∨ s.port.command = .ignoring →
      exec (instrOf c) s = .next (s.begun c s.port.result s.port.detail)) ∧
    (∀ d, s.port.command = .active d → s.port.waiting d = true →
      exec (instrOf c) s = .next (s.begun c .incomplete (commandCode d))) ∧
    (∀ d, s.port.command = .active d → s.port.waiting d = false →
      exec (instrOf c) s = .next (s.begun c s.port.result s.port.detail)) := by
  have hbegun := exec_command_begun hsel hnode hforms hop hrun hc
  refine ⟨fun h => ?_, fun d h hw => ?_, fun d h hw => ?_⟩
  · rwa [Port.resultAfter_idle h] at hbegun
  · rwa [Port.resultAfter_active h, if_pos hw] at hbegun
  · rwa [Port.resultAfter_active h, if_neg (by simp [hw])] at hbegun

/-- The end of the previous command is the same before the byte and at it (R150). -/
theorem exec_command_over {d : PortCommand} (h : s.port.command = .active d) : exec (instrOf c) s = exec (instrOf c) { s with
    port := { s.port with
      command := .none, params := [], recordBuffer := [], reply := none, fallDue := false
      outgoing := if s.port.fallDue = true ∧ s.port.bitCount = 0 then s.port.nextOut else s.port.outgoing
      result := if s.port.waiting d = true then .incomplete else s.port.result
      detail := if s.port.waiting d = true then commandCode d else s.port.detail } } := by
  rw [exec_instrOf, exec_instrOf, State.takeCommand_eq _ hsel hnode hforms, State.takeCommand_eq]
  · have hsame : s.atCommand = State.atCommand { s with port := { s.port with
        command := .none, params := [], recordBuffer := [], reply := none, fallDue := false
        outgoing := if s.port.fallDue = true ∧ s.port.bitCount = 0 then s.port.nextOut else s.port.outgoing
        result := if s.port.waiting d = true then .incomplete else s.port.result
        detail := if s.port.waiting d = true then commandCode d else s.port.detail } } := by
      rw [State.atCommand_eq, State.atCommand_eq, Port.resultAfter_active h]
      unfold Port.idle
      rw [Port.shifted_outgoing]
      cases s.port.waiting d <;> rfl
    rw [← hsame]
  · exact hsel
  · exact hnode
  · exact hforms

end

theorem exec_command_other {s : State} {c : PortCommand} (h : ¬ Forms s (BitVec.ofNat 8 (commandCode c))) :
    exec (instrOf c) s = .next s := by
  rw [exec_instrOf]
  exact congrArg Host.Outcome.next (State.takeByte_other _ h)

theorem exec_unknownCommand {s : State} {code : Byte} (hsel : s.pins.cpselLow = true) (hnode : s.startUp.node ≠ .starting)
    (hforms : Forms s code) : exec (.unknownCommand code) s =
      .next (if s.port.operation ≠ .none then s.refused .busy 0 else s.refused .refusedRange 0) := by
  rw [← State.atCommand_ignore, ← State.atCommand_ignore, ← State.atCommand_operation]
  exact congrArg Host.Outcome.next (State.takeByte_eq _ hsel hnode hforms)

/-- Settles O53. -/
theorem commandBytesBeginOrAreRefused : Obligations.CommandBytesBeginOrAreRefused := by
  intro s hsel hnode begun refused hbegun hrefused
  have hb : begun = s.begun := hbegun
  have hr : refused = fun _ => s.refused := hrefused
  clear hbegun hrefused
  subst hb hr
  refine ⟨fun x hx hforms => ?_, fun x hx hforms => ?_, fun x hx hforms hop => ?_, fun x hx hforms hop hrun => ?_,
    fun x hx hforms d hd => ?_, fun x hx hforms => ?_, fun code hforms => ?_, fun code c hforms => ⟨fun hop => ?_, fun hop => ?_⟩⟩
  · obtain ⟨hi, hconf, hbegins, hread⟩ : x.1 = instrOf x.2 ∧ configuringOnly x.2 = true ∧
        actionOf x.2 = State.beginCommand x.2 ∧ x.2 ≠ .readStatus := by
      simp only [List.mem_cons, List.not_mem_nil, or_false] at hx
      rcases hx with rfl | rfl | rfl | rfl | rfl | rfl | rfl <;> exact ⟨rfl, rfl, rfl, by decide⟩
    rw [hi]
    exact ⟨fun hop hn => exec_command_begins hsel hnode hforms hop (.inl (by rw [hn]; decide)) hbegins,
      exec_command_busy hsel hnode hforms hread, fun hop hrun => exec_command_state hsel hnode hforms hop hrun hconf⟩
  · obtain ⟨hi, hconf, hbegins, hread⟩ : x.1 = instrOf x.2 ∧ configuringOnly x.2 = false ∧
        actionOf x.2 = State.beginCommand x.2 ∧ x.2 ≠ .readStatus := by
      simp only [List.mem_cons, List.not_mem_nil, or_false] at hx
      rcases hx with rfl | rfl <;> exact ⟨rfl, rfl, rfl, by decide⟩
    rw [hi]
    exact ⟨fun hop => exec_command_begins hsel hnode hforms hop (.inr hconf) hbegins,
      exec_command_busy hsel hnode hforms hread⟩
  · obtain ⟨hi, hread⟩ : x.1 = instrOf x.2 ∧ x.2 ≠ .readStatus := by
      simp only [List.mem_cons, List.not_mem_nil, or_false] at hx
      rcases hx with rfl | rfl | rfl | rfl <;> exact ⟨rfl, by decide⟩
    rw [hi]
    exact exec_command_busy hsel hnode hforms hread hop
  · obtain ⟨hi, hconf⟩ : x.1 = instrOf x.2 ∧ configuringOnly x.2 = true := by
      simp only [List.mem_cons, List.not_mem_nil, or_false] at hx
      rcases hx with rfl | rfl <;> exact ⟨rfl, rfl⟩
    rw [hi]
    exact exec_command_state hsel hnode hforms hop hrun hconf
  · have hi : x.1 = instrOf x.2 := by
      simp only [List.mem_cons, List.not_mem_nil, or_false] at hx
      rcases hx with rfl | rfl | rfl | rfl | rfl <;> rfl
    rw [hi]
    exact exec_command_over hsel hnode hforms hd
  · have hi : x.1 = instrOf x.2 := by
      simp only [List.mem_cons, List.not_mem_nil, or_false] at hx
      rcases hx with rfl | rfl | rfl | rfl | rfl | rfl | rfl | rfl | rfl | rfl | rfl | rfl | rfl | rfl <;> rfl
    rw [hi]
    exact exec_command_other hforms
  · exact ⟨congrArg Host.Outcome.next (State.takeByte_other _ hforms),
      congrArg Host.Outcome.next (State.takeByte_other _ hforms)⟩
  · rw [exec_unknownCommand hsel hnode hforms, if_neg fun h => h hop]
  · rw [exec_unknownCommand hsel hnode hforms, if_pos hop]

/-! ## Selection and framing (R148, R149) -/

/-- The edges of the bits of a byte not yet sampled begin at most one outgoing byte, that of the first falling edge (R149). -/
theorem Port.shiftBits_discarded (bits : List Bool) (p : Port) (hf : p.fallDue = true) (hb : p.bitCount ≠ 0) :
    (bits.foldl Port.shiftBit p).discardBits = p.discardBits := by
  exact congrArg (fun q : Port => { q with fallDue := false }) (Port.shiftBits_eq bits p hb hf)

theorem Port.shiftBit_discarded (p : Port) (bit : Bool) : (p.shiftBit bit).discardBits = { p.discardBits with
    outgoing := if p.fallDue = true ∧ p.bitCount = 0 then p.nextOut else p.outgoing } := by
  unfold Port.shiftBit Port.fall
  by_cases hf : p.fallDue = true
  · rw [if_pos hf]
    by_cases hb : p.bitCount = 0
    · rw [if_pos ((Port.byteDue_iff p).mpr ⟨hf, hb⟩), if_pos ⟨hf, hb⟩]
      rfl
    · rw [if_neg fun h => hb ((Port.byteDue_iff p).mp h).2, if_neg fun h => hb h.2]
      rfl
  · rw [if_neg hf, if_neg fun h => hf h.1]
    rfl

theorem Port.shiftBit_goesOn (p : Port) (bit : Bool) : (p.shiftBit bit).fallDue = true ∧ (p.shiftBit bit).bitCount ≠ 0 := by
  refine ⟨rfl, ?_⟩
  show _ + 1 ≠ 0
  omega

/-- The edges of an incomplete byte, discarded (R148, R149). -/
theorem Port.clockedOut (p : Port) (bits : List Bool) : (bits.foldl Port.shiftBit p).discardBits = { p.discardBits with
    outgoing := if bits ≠ [] ∧ p.fallDue = true ∧ p.bitCount = 0 then p.nextOut else p.outgoing } := by
  cases bits with
  | nil => rfl
  | cons b rest =>
    obtain ⟨hf, hb⟩ := p.shiftBit_goesOn b
    rw [List.foldl_cons, Port.shiftBits_discarded _ _ hf hb, Port.shiftBit_discarded]
    simp

theorem exec_portDeselect {s : State} (h : s.pins.cpselLow = true) (bits : List Bool) :
    exec (.portDeselect bits) s = .next { s with
      pins := { s.pins with cpselLow := false }
      port := { s.port with
        incoming := [], bitCount := 0, fallDue := false
        outgoing := if s.port.incoming.length < bits.length ∧ s.startUp.node ≠ .starting ∧ s.port.fallDue = true ∧
          s.port.bitCount = 0 then s.port.nextOut else s.port.outgoing } } := by
  refine (congrArg Host.Outcome.next (if_pos h)).trans (congrArg Host.Outcome.next ?_)
  have hport : (if s.startUp.node = .starting then s.port
      else (bits.drop s.port.incoming.length).foldl Port.shiftBit s.port).discardBits = { s.port.discardBits with
        outgoing := if s.port.incoming.length < bits.length ∧ s.startUp.node ≠ .starting ∧ s.port.fallDue = true ∧
          s.port.bitCount = 0 then s.port.nextOut else s.port.outgoing } := by
    by_cases hn : s.startUp.node = .starting
    · rw [if_pos hn, if_neg fun g => g.2.1 hn]
      rfl
    · have hdrop : bits.drop s.port.incoming.length ≠ [] ↔ s.port.incoming.length < bits.length := by
        rw [Ne, List.drop_eq_nil_iff]
        omega
      rw [if_neg hn, Port.clockedOut]
      simp only [hdrop, Ne, hn, not_false_iff, true_and]
  exact congrArg (fun p : Port => ({ s with pins := { s.pins with cpselLow := false }, port := p } : State)) hport

theorem byteBits_getElem? (b : Byte) {k : Nat} (h : k < 8) : (byteBits b)[k]? = some (b.getLsbD (7 - k)) := by
  match k, h with
  | 0, _ | 1, _ | 2, _ | 3, _ | 4, _ | 5, _ | 6, _ | 7, _ => rfl

theorem State.cpdo_selected {s : State} (hsel : s.pins.cpselLow = true) (hn : s.startUp.node ≠ .starting)
    (h : s.port.falls < 8) : s.cpdo = (byteBits s.port.outgoing)[s.port.falls]? := by
  unfold State.cpdo
  rw [if_pos ⟨hsel, hn⟩, byteBits_getElem? _ h]
  rfl

theorem Port.falls_eq (p : Port) : p.falls =
    if p.fallDue = true then (if p.bitCount = 0 then 7 else p.bitCount - 1) else p.bitCount := by
  unfold Port.falls
  by_cases hf : p.fallDue = true
  · by_cases hb : p.bitCount = 0
    · rw [if_pos ((Port.byteDue_iff p).mpr ⟨hf, hb⟩), if_pos hf, if_pos hb]
    · rw [if_neg fun h => hb ((Port.byteDue_iff p).mp h).2, if_pos hf, if_pos hf, if_neg hb]
  · rw [if_neg fun h => hf ((Port.byteDue_iff p).mp h).1, if_neg hf, if_neg hf]

/-- Settles O52: the clock's edges, the byte that begins, selection, deselection, a tick, CPDO. -/
theorem portSelectionFramesBytes : Obligations.PortSelectionFramesBytes := by
  refine ⟨fun p bit => ⟨fun hf hb => ?_, fun hf hb => ?_, fun hf hb => ?_, fun hf hb => ?_⟩, fun s => ⟨fun h => ?_,
    fun bytes h hc => ?_, fun bytes h hc hp => ?_, fun h => ⟨fun hn => ?_, fun hn => ?_⟩, fun h bits => exec_portDeselect h bits,
    fun h => ?_, fun h => ?_, fun hsel hn => ⟨fun hf hb => ?_, fun hf h1 h8 => ?_, fun hf hb => ?_⟩⟩⟩
  · rw [Port.edge_eq, if_pos hf, if_neg hb]
  · rw [Port.edge_eq, if_pos hf, if_pos hb]
  · rw [Port.edge_eq, if_neg (by simp [hf]), if_pos hb]
  · rw [Port.edge_eq, if_neg (by simp [hf]), if_neg (by omega)]
  · unfold Port.nextOut
    rw [h]
  · unfold Port.nextOut
    rcases hc with hc | hc <;> rw [h, hc] <;> rfl
  · unfold Port.nextOut
    rcases hc with hc | hc <;> rw [h, hc] <;> exact if_pos hp
  · exact congrArg Host.Outcome.next ((if_neg (show ¬ s.pins.cpselLow = true by simp [h])).trans (if_pos hn))
  · exact congrArg Host.Outcome.next ((if_neg (show ¬ s.pins.cpselLow = true by simp [h])).trans (if_neg hn))
  · refine ⟨s.tick, by rw [step, h], fun hout => if_neg fun hin => hout.elim (fun hl => by simp [hl] at hin) hin.2, ?_⟩
    show ∃ bits : List Bool, s.clocked (Config.portEdges s.now) = bits.foldl Port.edge s.port
    unfold State.clocked
    split
    · exact ⟨_, rfl⟩
    · exact ⟨[], rfl⟩
  · exact if_neg fun hin => h.elim (fun hl => by simp [hl] at hin) hin.2
  · have hfalls : s.port.falls = s.port.bitCount := by rw [Port.falls_eq, if_neg (by simp [hf])]
    rw [State.cpdo_selected hsel hn (by omega), hfalls]
  · have hfalls : s.port.falls = s.port.bitCount - 1 := by rw [Port.falls_eq, if_pos hf, if_neg (by omega)]
    rw [State.cpdo_selected hsel hn (by omega), hfalls]
  · have hfalls : s.port.falls = 7 := by rw [Port.falls_eq, if_pos hf, if_pos hb]
    rw [State.cpdo_selected hsel hn (by omega), hfalls]

end Sys2Proof.Machine
end

section
/-! Parameter bytes at the commissioning port (sections 9.2 to 9.5): the working copy's writes. -/

namespace Sys2Proof.Machine

open Sys2Proof.Config

/-! ## A parameter byte that is taken (R151) -/

/-- The state in which a parameter byte acts (R148, R151). -/
def State.atParameter (s : State) : State :=
  { s with port := { s.port.shifted with position := s.port.position + 1 } }

section

variable {s : State} {b : Byte} (hsel : s.pins.cpselLow = true) (hnode : s.startUp.node ≠ .starting) (hforms : Forms s b)

include hsel hnode hforms

theorem exec_parameterByte {c : PortCommand} (h : s.port.command = .active c) :
    exec (.parameterByte b) s = .next (s.atParameter.takeParameter c b) := by
  refine (congrArg Host.Outcome.next (State.takeByte_eq _ hsel hnode hforms)).trans (congrArg Host.Outcome.next ?_)
  dsimp only
  rw [h]
  unfold State.atParameter Port.shifted
  rw [h]

theorem exec_parameterByte_idle (h : s.port.command = .none ∨ s.port.command = .ignoring) :
    exec (.parameterByte b) s = .next { s with port := s.port.shifted } := by
  refine (congrArg Host.Outcome.next (State.takeByte_eq _ hsel hnode hforms)).trans (congrArg Host.Outcome.next ?_)
  dsimp only
  rcases h with h | h <;> rw [h] <;> unfold Port.shifted <;> rw [h]

end

/-! ## SET NEIGHBOURS (R155) -/

theorem filterNeighbours_append (own : Nat) (given : List Byte) (b : Byte) : filterNeighbours own (given ++ [b]) =
    if validStation b.toNat && decide (b.toNat ≠ own) && !(filterNeighbours own given).contains b.toNat then
      filterNeighbours own given ++ [b.toNat] else filterNeighbours own given := by
  simp [filterNeighbours]

theorem mem_filterNeighbours (own : Nat) (given : List Byte) (n : Nat) : n ∈ filterNeighbours own given ↔
    n ∈ given.map BitVec.toNat ∧ 1 ≤ n ∧ n ≤ 120 ∧ n ≠ own := by
  induction given using list_end_induction with
  | nil => simp [filterNeighbours]
  | append_singleton given b ih =>
    rw [filterNeighbours_append, List.map_append, List.mem_append, List.map_singleton, List.mem_singleton]
    split
    · rename_i h
      simp only [Bool.and_eq_true, decide_eq_true_eq, validStation_iff] at h
      rw [List.mem_append, List.mem_singleton, ih]
      constructor
      · rintro (⟨hm, hn⟩ | rfl)
        · exact ⟨.inl hm, hn⟩
        · exact ⟨.inr rfl, h.1.1.1, h.1.1.2, h.1.2⟩
      · rintro ⟨hm | rfl, hn⟩
        · exact .inl ⟨hm, hn⟩
        · exact .inr rfl
    · rename_i h
      simp only [Bool.and_eq_true, decide_eq_true_eq, validStation_iff, Bool.not_eq_true', List.contains_eq_mem,
        decide_eq_false_iff_not, not_and, Classical.not_not] at h
      rw [ih]
      constructor
      · exact fun ⟨hm, hn⟩ => ⟨.inl hm, hn⟩
      · rintro ⟨hm | rfl, h1, h120, hown⟩
        · exact ⟨hm, h1, h120, hown⟩
        · exact ih.mp (h ⟨⟨h1, h120⟩, hown⟩)

/-- The stations stand in the order given, each at its first place (R155). -/
theorem filterNeighbours_order (own : Nat) (given : List Byte) :
    (filterNeighbours own given).Sublist (given.map BitVec.toNat) ∧
      (filterNeighbours own given).Pairwise fun m n =>
        (given.map BitVec.toNat).idxOf m < (given.map BitVec.toNat).idxOf n := by
  induction given using list_end_induction with
  | nil => simp [filterNeighbours]
  | append_singleton given b ih =>
    obtain ⟨hsub, horder⟩ := ih
    have hold : ∀ m ∈ filterNeighbours own given,
        (given.map BitVec.toNat ++ [b.toNat]).idxOf m = (given.map BitVec.toNat).idxOf m := fun m hm =>
      List.idxOf_append.trans (if_pos ((mem_filterNeighbours own given m).mp hm).1)
    have hkept : (filterNeighbours own given).Pairwise fun m n =>
        (given.map BitVec.toNat ++ [b.toNat]).idxOf m < (given.map BitVec.toNat ++ [b.toNat]).idxOf n :=
      horder.imp_of_mem fun {m n} hm hn hlt => by rwa [hold m hm, hold n hn]
    rw [filterNeighbours_append, List.map_append, List.map_singleton]
    split
    · rename_i h
      simp only [Bool.and_eq_true, decide_eq_true_eq, validStation_iff, Bool.not_eq_true', List.contains_eq_mem,
        decide_eq_false_iff_not] at h
      have hnew : b.toNat ∉ given.map BitVec.toNat := fun hm =>
        h.2 ((mem_filterNeighbours own given b.toNat).mpr ⟨hm, h.1.1.1, h.1.1.2, h.1.2⟩)
      refine ⟨hsub.append (List.Sublist.refl _), ?_⟩
      rw [List.pairwise_append]
      refine ⟨hkept, by simp, fun m hm n hn => ?_⟩
      rw [List.mem_singleton.mp hn, hold m hm, List.idxOf_append, if_neg hnew]
      have := List.idxOf_lt_length_of_mem ((mem_filterNeighbours own given m).mp hm).1
      omega
    · exact ⟨hsub.trans (List.sublist_append_left _ _), hkept⟩

/-! ## SET STATION and SET LINK (R153, R154) -/

theorem State.paramSetStation_spec (s : State) (b : Byte) :
    (1 ≤ b.toNat → b.toNat ≤ 120 → (s.paramSetStation b).working = { s.working with
        station := b.toNat, neighbours := s.working.neighbours.filter fun n => decide (n ≠ b.toNat) } ∧
      (s.paramSetStation b).port.result = .ok ∧ (s.paramSetStation b).port.detail = 0 ∧
      (s.paramSetStation b).port.command = .none) ∧
    (b.toNat = 0 ∨ 120 < b.toNat → (s.paramSetStation b).working = s.working ∧
      (s.paramSetStation b).port.result = .refusedRange ∧ (s.paramSetStation b).port.detail = 0 ∧
      (s.paramSetStation b).port.command = .ignoring) ∧
    s.paramSetStation b = { s with working := (s.paramSetStation b).working, port := (s.paramSetStation b).port } := by
  unfold State.paramSetStation
  refine ⟨fun h1 h120 => ?_, fun hout => ?_, ?_⟩
  · rw [if_pos ((validStation_iff _).mpr ⟨h1, h120⟩)]
    exact ⟨rfl, rfl, rfl, rfl⟩
  · rw [if_neg fun h => by have := (validStation_iff _).mp h; omega]
    exact ⟨rfl, rfl, rfl, rfl⟩
  · split <;> rfl

theorem bitRateOf_eq (b : Byte) :
    (b ≠ 1 → b ≠ 2 → bitRateOf b = none) ∧ (b = 1 ∨ b = 2 → bitRateOf b = some (if b = 1 then .k50 else .k100)) := by
  unfold bitRateOf
  refine ⟨fun h1 h2 => by rw [if_neg h1, if_neg h2], fun h => ?_⟩
  rcases h with rfl | rfl <;> rfl

theorem State.paramSetLink_spec (s : State) (b : Byte) :
    (b ≠ 1 → b ≠ 2 → s.paramSetLink [b] = s.refuse 0) ∧ (b = 1 ∨ b = 2 → s.paramSetLink [b] = s.keep [b]) ∧
    (∀ code, s.paramSetLink [code, b] = s.keep [code, b]) ∧
    (∀ code window, code = 1 ∨ code = 2 → s.paramSetLink [code, window, b] = State.complete { s with working := { s.working with
      bitRate := if code = 1 then .k50 else .k100
      matchWindow := max 5 (min 120 window.toNat), shockLevel := max 1 (min 4 b.toNat) } } .ok 0) := by
  obtain ⟨hbad, hgood⟩ := bitRateOf_eq b
  refine ⟨fun h1 h2 => if_pos (hbad h1 h2), fun h => if_neg (by rw [hgood h]; simp), fun code => rfl,
    fun code window h => ?_⟩
  unfold State.paramSetLink
  dsimp only
  rw [(bitRateOf_eq code).2 h, Option.getD_some, clampNat_eq _ (by omega), clampNat_eq _ (by omega)]

theorem State.paramSetLink_frame (s : State) (params : List Byte) :
    s.paramSetLink params = { s with working := (s.paramSetLink params).working, port := (s.paramSetLink params).port } := by
  unfold State.paramSetLink
  split
  · split <;> rfl
  · rfl
  · rfl

theorem State.paramSetNeighbours_spec (s : State) (count : Byte) (stations : List Byte) :
    (4 < count.toNat → s.paramSetNeighbours (count :: stations) = s.refuse 0) ∧
    (count.toNat ≤ 4 → stations.length = count.toNat → s.paramSetNeighbours (count :: stations) = State.complete
      { s with working := { s.working with neighbours := filterNeighbours s.working.station stations } } .ok 0) ∧
    (count.toNat ≤ 4 → stations.length ≠ count.toNat →
      s.paramSetNeighbours (count :: stations) = s.keep (count :: stations)) := by
  unfold State.paramSetNeighbours
  refine ⟨fun h => if_pos h, fun h hl => ?_, fun h hl => ?_⟩
  · exact (if_neg (by omega)).trans (if_pos hl)
  · exact (if_neg (by omega)).trans (if_neg hl)

theorem State.paramSetNeighbours_frame (s : State) (params : List Byte) : s.paramSetNeighbours params =
    { s with working := (s.paramSetNeighbours params).working, port := (s.paramSetNeighbours params).port } := by
  unfold State.paramSetNeighbours
  split
  · rfl
  · split
    · rfl
    · split <;> rfl

/-! ## Window writes (R156, R158) -/

theorem State.paramWindow_spec (s : State) (lo hi : Nat) (first last : Byte) :
    (lo ≤ first.toNat ∧ first.toNat ≤ hi → s.paramWindow lo hi [first] = s.keep [first]) ∧
    (¬ (lo ≤ first.toNat ∧ first.toNat ≤ hi) → s.paramWindow lo hi [first] = s.refuse 0) ∧
    (lo ≤ last.toNat ∧ last.toNat ≤ hi ∧ first.toNat ≤ last.toNat → s.paramWindow lo hi [first, last] = State.setResult
      { s with port := { s.port with
        params := [first, last], windowCounter := first.toNat, recordBuffer := [] } } .ok 0) ∧
    (¬ (lo ≤ last.toNat ∧ last.toNat ≤ hi ∧ first.toNat ≤ last.toNat) → s.paramWindow lo hi [first, last] = s.refuse 1) :=
  ⟨fun h => if_pos h, fun h => if_neg h, fun h => if_pos h, fun h => if_neg h⟩

theorem State.paramRecord_gathers (s : State) {size : Nat} (apply : State → List Byte → State) (b : Byte)
    (h : s.port.recordBuffer.length + 1 < size) :
    s.paramRecord size apply b = { s with port := { s.port with recordBuffer := s.port.recordBuffer ++ [b] } } :=
  if_neg (by rw [List.length_append, List.length_singleton]; omega)

theorem State.paramRecord_whole (s : State) {size : Nat} (apply : State → List Byte → State) (b : Byte)
    (h : s.port.recordBuffer.length + 1 = size) :
    s.paramRecord size apply b = (apply s (s.port.recordBuffer ++ [b])).nextRecord :=
  if_pos (by rw [List.length_append, List.length_singleton]; omega)

theorem State.applySlotRecord_eq (s : State) (bytes : List Byte) {i : Slot} (h : s.port.windowCounter = i.val) :
    s.applySlotRecord bytes = { s with working := { s.working with
      slots := s.working.slots.set i.val (slotRecordOf bytes) i.isLt } } := by
  obtain ⟨k, hk⟩ := i
  dsimp only at h
  subst h
  exact dif_pos hk

/-- The fields of a slot record, clamped (R158). -/
theorem slotRecordOf_eq (b0 b1 b2 b3 b4 b5 b6 b7 : Byte) : slotRecordOf [b0, b1, b2, b3, b4, b5, b6, b7] =
    { article := b0.toNat * 65536 + b1.toNat * 256 + b2.toNat
      reorderPoint := min 3996 (b3.toNat * 256 + b4.toNat)
      hysteresis := max 1 (min 500 (b5.toNat * 256 + b6.toNat)) } := by
  unfold slotRecordOf fieldNat
  rw [clampNat_eq _ (by omega), clampNat_eq _ (by omega)]
  simp
  omega

/-- A window write takes its two index bytes and then its records (R156). -/
theorem State.takeParameter_window {s : State} {x : PortCommand × Nat × Nat × Nat}
    (hx : x ∈ [(PortCommand.writeSlots, 0, 7, 8), (.writeLanes, 1, 4, 16)]) (b : Byte) :
    (s.port.params.length < 2 → s.takeParameter x.1 b = s.paramWindow x.2.1 x.2.2.1 (s.port.params ++ [b])) ∧
    (2 ≤ s.port.params.length → s.port.recordBuffer.length + 1 < x.2.2.2 → s.takeParameter x.1 b =
      { s with port := { s.port with recordBuffer := s.port.recordBuffer ++ [b] } }) := by
  simp only [List.mem_cons, List.not_mem_nil, or_false] at hx
  rcases hx with rfl | rfl
  · exact ⟨fun h => if_pos h, fun h hb => (if_neg (by omega)).trans (s.paramRecord_gathers State.applySlotRecord b hb)⟩
  · exact ⟨fun h => if_pos h, fun h hb => (if_neg (by omega)).trans (s.paramRecord_gathers State.applyLaneRecord b hb)⟩

/-- Settles O54. -/
theorem parametersWriteTheWorkingCopy : Obligations.ParametersWriteTheWorkingCopy := by
  intro s b hsel hn hforms
  have hnode : s.startUp.node ≠ .starting := by rw [hn]; decide
  have hexec : ∀ {c}, s.port.command = .active c → exec (.parameterByte b) s = .next (s.atParameter.takeParameter c b) :=
    exec_parameterByte hsel hnode hforms
  refine ⟨fun h => ?_, fun h => ⟨_, hexec h, ?_⟩, fun h => ⟨_, hexec h, ?_⟩, fun h => ⟨_, hexec h, ?_⟩,
    fun x hx h => ⟨fun hp => ⟨_, hexec h, ?_⟩, fun first hp => ⟨_, hexec h, ?_⟩, fun first last hp hlen => ⟨_, hexec h, ?_⟩⟩,
    fun first last b0 b1 b2 b3 b4 b5 b6 i h hp hw hr => ⟨_, hexec h, ?_⟩⟩
  · exact ⟨_, exec_parameterByte_idle hsel hnode hforms h, rfl⟩
  · exact s.atParameter.paramSetStation_spec b
  · obtain ⟨hbad, hgood, hsecond, hthird⟩ := s.atParameter.paramSetLink_spec b
    have htake : s.atParameter.takeParameter .setLink b = s.atParameter.paramSetLink (s.port.params ++ [b]) := rfl
    rw [htake]
    refine ⟨fun hp => ?_, fun code hc hp => ?_, fun code window hc hp => ?_, State.paramSetLink_frame _ _⟩ <;> rw [hp]
    · refine ⟨?_, fun h1 h2 => ?_, fun h12 => ?_⟩
      · rw [List.nil_append]
        by_cases h12 : b = 1 ∨ b = 2
        · rw [hgood h12]
          rfl
        · rw [hbad (fun g => h12 (.inl g)) fun g => h12 (.inr g)]
          rfl
      · rw [List.nil_append, hbad h1 h2]
        exact ⟨rfl, rfl, rfl⟩
      · rw [List.nil_append, hgood h12]
        exact ⟨rfl, h, rfl, rfl⟩
    · rw [List.singleton_append, hsecond code]
      exact ⟨rfl, rfl, h, rfl, rfl⟩
    · rw [show [code, window] ++ [b] = [code, window, b] from rfl, hthird code window hc]
      exact ⟨rfl, rfl, rfl, rfl⟩
  · have htake : s.atParameter.takeParameter .setNeighbours b = s.atParameter.paramSetNeighbours (s.port.params ++ [b]) :=
      rfl
    rw [htake]
    refine ⟨fun hp h4 => ?_, fun hp h0 => ?_, fun hp h1 h4 => ?_, fun count given hp h4 => ⟨fun hlen => ?_, fun hlen => ?_⟩,
      State.paramSetNeighbours_frame _ _⟩ <;> rw [hp]
    · rw [List.nil_append, (s.atParameter.paramSetNeighbours_spec b []).1 h4]
      exact ⟨rfl, rfl, rfl, rfl⟩
    · subst h0
      exact ⟨rfl, rfl, rfl, rfl⟩
    · rw [List.nil_append, (s.atParameter.paramSetNeighbours_spec b []).2.2 h4 (by simp; omega)]
      exact ⟨rfl, rfl, h, rfl, rfl⟩
    · rw [List.cons_append, (s.atParameter.paramSetNeighbours_spec count (given ++ [b])).2.2 h4 (by simp; omega)]
      exact ⟨rfl, rfl, h, rfl, rfl⟩
    · rw [List.cons_append, (s.atParameter.paramSetNeighbours_spec count (given ++ [b])).2.1 h4 (by simp; omega)]
      obtain ⟨hsub, horder⟩ := filterNeighbours_order s.working.station (given ++ [b])
      exact ⟨rfl, rfl, rfl, rfl, (filterNeighbours_sound s.working.station (given ++ [b])).2.1, hsub, horder,
        mem_filterNeighbours s.working.station (given ++ [b])⟩
  · have hparams : s.atParameter.port.params = [] := hp
    obtain ⟨hin, hout, -, -⟩ := s.atParameter.paramWindow_spec x.2.1 x.2.2.1 b b
    rw [(State.takeParameter_window (s := s.atParameter) hx b).1 (by rw [hparams]; decide), hparams, List.nil_append]
    refine ⟨fun h1 h2 => ?_, fun hr => ?_, ?_⟩
    · rw [hin ⟨h1, h2⟩]
      exact ⟨rfl, h, rfl, rfl⟩
    · rw [hout (by omega)]
      exact ⟨rfl, rfl, rfl⟩
    · by_cases hr : x.2.1 ≤ b.toNat ∧ b.toNat ≤ x.2.2.1
      · rw [hin hr]
        rfl
      · rw [hout hr]
        rfl
  · have hparams : s.atParameter.port.params = [first] := hp
    obtain ⟨-, -, hin, hout⟩ := s.atParameter.paramWindow_spec x.2.1 x.2.2.1 first b
    rw [(State.takeParameter_window (s := s.atParameter) hx b).1 (by rw [hparams]; exact Nat.lt_succ_self 1), hparams,
      List.singleton_append]
    refine ⟨fun h1 h2 h3 => ?_, fun hr => ?_, ?_⟩
    · rw [hin ⟨h1, h2, h3⟩]
      exact ⟨rfl, rfl, rfl, h, rfl, rfl⟩
    · rw [hout (by omega)]
      exact ⟨rfl, rfl, rfl⟩
    · by_cases hr : x.2.1 ≤ b.toNat ∧ b.toNat ≤ x.2.2.1 ∧ first.toNat ≤ b.toNat
      · rw [hin hr]
        rfl
      · rw [hout hr]
        rfl
  · have hparams : s.atParameter.port.params = [first, last] := hp
    rw [(State.takeParameter_window (s := s.atParameter) hx b).2 (by rw [hparams]; exact Nat.le_refl 2) hlen]
    exact ⟨rfl, hp, rfl, h, rfl, rfl, rfl⟩
  · have htake : s.atParameter.takeParameter .writeSlots b = (s.atParameter.applySlotRecord
        [b0, b1, b2, b3, b4, b5, b6, b]).nextRecord := by
      have hparams : s.atParameter.port.params = [first, last] := hp
      have hbuffer : s.atParameter.port.recordBuffer = [b0, b1, b2, b3, b4, b5, b6] := hr
      refine (if_neg (by rw [hparams]; exact Nat.lt_irrefl 2)).trans ?_
      rw [State.paramRecord_whole _ _ _ (by rw [hbuffer]; rfl), hbuffer]
      rfl
    rw [htake, s.atParameter.applySlotRecord_eq _ hw, slotRecordOf_eq]
    refine ⟨rfl, rfl, rfl, ?_, rfl⟩
    show (if s.port.windowCounter = (s.port.params.getD 1 0).toNat then (s.port.params.getD 0 0).toNat
      else s.port.windowCounter + 1) = _
    rw [hp, hw]
    rfl

end Sys2Proof.Machine
end

section
/-! The last byte of a lane record (section 9.5): its fields, refused or applied. -/

namespace Sys2Proof.Machine

open Sys2Proof.Config

/-! ## The fields of a record (R172) -/

theorem getD_eq_getElem_of_lt {α : Type} {xs : List α} (d : α) {k : Nat} (h : k < xs.length) : xs.getD k d = xs[k] := by
  rw [List.getD_eq_getElem?_getD, List.getElem?_eq_getElem h, Option.getD_some]

theorem fieldNat_one (bytes : List Byte) {k : Nat} (h : k < bytes.length) :
    fieldNat ((bytes.drop k).take 1) = (bytes.getD k 0).toNat := by
  rw [List.drop_eq_getElem_cons h, getD_eq_getElem_of_lt _ h, List.take_succ_cons, List.take_zero]
  simp [fieldNat]

theorem fieldNat_succ (bytes : List Byte) (m : Nat) {k : Nat} (h : k + m < bytes.length) :
    fieldNat ((bytes.drop k).take (m + 1)) = fieldNat ((bytes.drop k).take m) * 256 + (bytes.getD (k + m) 0).toNat := by
  have hdrop : m < (bytes.drop k).length := by rw [List.length_drop]; omega
  rw [List.take_succ_eq_append_getElem hdrop, fieldNat_append, List.getElem_drop, getD_eq_getElem_of_lt _ h]

theorem fieldNat_two (bytes : List Byte) {k : Nat} (h : k + 1 < bytes.length) :
    fieldNat ((bytes.drop k).take 2) = (bytes.getD k 0).toNat * 256 + (bytes.getD (k + 1) 0).toNat := by
  rw [fieldNat_succ bytes 1 h, fieldNat_one bytes (by omega)]

theorem fieldNat_three (bytes : List Byte) {k : Nat} (h : k + 2 < bytes.length) : fieldNat ((bytes.drop k).take 3) =
    (bytes.getD k 0).toNat * 65536 + (bytes.getD (k + 1) 0).toNat * 256 + (bytes.getD (k + 2) 0).toNat := by
  rw [fieldNat_succ bytes 2 h, fieldNat_two bytes (by omega)]
  omega

/-- A signed field of three bytes: its sign is its first bit. -/
theorem fieldSigned24_three (bytes : List Byte) {k : Nat} (h : k + 2 < bytes.length) :
    fieldSigned24 ((bytes.drop k).take 3) = if (bytes.getD k 0).toNat < 128 then
      (((bytes.getD k 0).toNat * 65536 + (bytes.getD (k + 1) 0).toNat * 256 + (bytes.getD (k + 2) 0).toNat : Nat) : Int)
    else (((bytes.getD k 0).toNat * 65536 + (bytes.getD (k + 1) 0).toNat * 256 + (bytes.getD (k + 2) 0).toNat : Nat) : Int) -
      16777216 := by
  unfold fieldSigned24
  rw [fieldNat_three bytes h, BitVec.toInt_eq_toNat_cond, BitVec.toNat_ofNat]
  have hhigh := (bytes.getD k 0).isLt
  have hmid := (bytes.getD (k + 1) 0).isLt
  have hlow := (bytes.getD (k + 2) 0).isLt
  rw [Nat.mod_eq_of_lt (by omega)]
  split <;> split <;> omega

/-! ## The lane record (R157) -/

section

variable (old : LaneRecord) {bytes : List Byte} (hlen : bytes.length = 16) {field : Nat → Nat}
  (hfield : field = fun k => (bytes.getD k 0).toNat)

include hlen hfield

theorem laneRecordOf_refused (h : field 1 * 256 + field 2 < 5 ∨ 30000 < field 1 * 256 + field 2 ∨ 8 ≤ field 0 % 128) :
    laneRecordOf old bytes = none := by
  subst hfield
  dsimp only at h
  have h0 : fieldNat (bytes.take 1) = (bytes.getD 0 0).toNat := fieldNat_one bytes (k := 0) (by omega)
  have h12 : fieldNat ((bytes.drop 1).take 2) = (bytes.getD 1 0).toNat * 256 + (bytes.getD 2 0).toNat :=
    fieldNat_two bytes (by omega)
  unfold laneRecordOf
  rw [h0, h12]
  dsimp only
  split
  · exact if_neg (by omega)
  · rfl

theorem laneRecordOf_applied (h5 : 5 ≤ field 1 * 256 + field 2) (h30 : field 1 * 256 + field 2 ≤ 30000)
    (h8 : field 0 % 128 < 8) : laneRecordOf old bytes = some
      { enabled := decide (128 ≤ field 0)
        slot := ⟨field 0 % 128, h8⟩
        unitWeight := field 1 * 256 + field 2
        allowance := min 200 (field 3)
        baseTol := max 1 (min 2000 (field 4 * 256 + field 5))
        motion := max 2 (min 5000 (field 6 * 256 + field 7))
        band := max 1 (min 500 (field 8 * 256 + field 9))
        settleCount := max 4 (min 64 (field 10))
        zeroCode := if field 14 * 256 + field 15 = 0 then old.zeroCode else
          if field 11 < 128 then ((field 11 * 65536 + field 12 * 256 + field 13 : Nat) : Int)
          else ((field 11 * 65536 + field 12 * 256 + field 13 : Nat) : Int) - 16777216
        span := if field 14 * 256 + field 15 = 0 then old.span else field 14 * 256 + field 15
        spanCaptured := if field 14 * 256 + field 15 = 0 then old.spanCaptured else true } := by
  subst hfield
  dsimp only at *
  have h0 : fieldNat (bytes.take 1) = (bytes.getD 0 0).toNat := fieldNat_one bytes (k := 0) (by omega)
  unfold laneRecordOf
  simp only [h0, fieldNat_one bytes (show 3 < bytes.length by omega), fieldNat_one bytes (show 10 < bytes.length by omega),
    fieldNat_two bytes (show 1 + 1 < bytes.length by omega), fieldNat_two bytes (show 4 + 1 < bytes.length by omega),
    fieldNat_two bytes (show 6 + 1 < bytes.length by omega), fieldNat_two bytes (show 8 + 1 < bytes.length by omega),
    fieldNat_two bytes (show 14 + 1 < bytes.length by omega),
    fieldSigned24_three bytes (show 11 + 2 < bytes.length by omega)]
  rw [dif_pos h8, if_pos ⟨h5, h30⟩, clampNat_eq _ (by omega), clampNat_eq _ (by omega), clampNat_eq _ (by omega),
    clampNat_eq _ (by omega), clampNat_eq _ (by omega), Nat.max_eq_right (Nat.zero_le _)]

end

theorem laneOfNumber_number (l : Lane) : Lane.ofNumber l.number = some l := by
  cases l <;> rfl

theorem State.applyLaneRecord_refused {s : State} {l : Lane} {bytes : List Byte} (hw : s.port.windowCounter = l.number)
    (h : laneRecordOf (laneOf s.working l) bytes = none) : s.applyLaneRecord bytes = s.refuseRecord := by
  unfold State.applyLaneRecord
  rw [hw, laneOfNumber_number l]
  dsimp only
  rw [h]

theorem State.applyLaneRecord_applied {s : State} {l : Lane} {bytes : List Byte} {lr : LaneRecord}
    (hw : s.port.windowCounter = l.number) (h : laneRecordOf (laneOf s.working l) bytes = some lr) :
    s.applyLaneRecord bytes = { s with working := { s.working with
      lanes := s.working.lanes.set l.idx.val lr l.idx.isLt } } := by
  unfold State.applyLaneRecord
  rw [hw, laneOfNumber_number l]
  dsimp only
  rw [h]

/-- A refused record writes the result alone, and that of the write's first alone (R156). -/
theorem State.refuseRecord_spec (s : State) :
    (s.port.recordRefused = false → s.refuseRecord.port.result = .refusedRange ∧
      s.refuseRecord.port.detail = s.port.windowCounter) ∧
    s.refuseRecord.port.windowCounter = s.port.windowCounter ∧ s.refuseRecord.port.params = s.port.params ∧
    s.refuseRecord = { s with port := s.refuseRecord.port } := by
  unfold State.refuseRecord
  split
  · next h => exact ⟨fun hf => absurd (h.symm.trans hf) (by decide), rfl, rfl, rfl⟩
  · exact ⟨fun _ => ⟨rfl, rfl⟩, rfl, rfl, rfl⟩

/-- After a record the window goes on, from its end to its start (R156). -/
theorem Port.nextIndex_eq {p : Port} {first last : Byte} {n : Nat} (hp : p.params = [first, last])
    (hw : p.windowCounter = n) : p.nextIndex = if n = last.toNat then first.toNat else n + 1 := by
  unfold Port.nextIndex
  rw [hp, hw]
  rfl

/-- Settles O55. -/
theorem laneRecordsApply : Obligations.LaneRecordsApply := by
  intro s l bytes b first last new hsel hn hforms h hp hw hlen hr hnew field hfield
  have hnode : s.startUp.node ≠ .starting := by rw [hn]; decide
  have hnewlen : new.length = 16 := by rw [hnew, List.length_append, hlen]; rfl
  have htake : s.atParameter.takeParameter .writeLanes b = (s.atParameter.applyLaneRecord new).nextRecord := by
    have hparams : s.atParameter.port.params = [first, last] := hp
    have hbuffer : s.atParameter.port.recordBuffer = bytes := hr
    refine (if_neg (by rw [hparams]; exact Nat.lt_irrefl 2)).trans ?_
    rw [State.paramRecord_whole _ _ _ (by rw [hbuffer, hlen]), hbuffer, hnew]
  refine ⟨_, exec_parameterByte hsel hnode hforms h, ?_⟩
  rw [htake]
  by_cases hbad : field 1 * 256 + field 2 < 5 ∨ 30000 < field 1 * 256 + field 2 ∨ 8 ≤ field 0 % 128
  · have happly : s.atParameter.applyLaneRecord new = s.atParameter.refuseRecord :=
      State.applyLaneRecord_refused hw (laneRecordOf_refused _ hnewlen hfield hbad)
    rw [happly]
    obtain ⟨hresult, hcounter, hparams, hframe⟩ := s.atParameter.refuseRecord_spec
    have hwork : s.atParameter.refuseRecord.working = s.working := (congrArg State.working hframe :)
    refine ⟨rfl, Port.nextIndex_eq (hparams.trans hp) (hcounter.trans hw), fun _ => ⟨hwork, fun hfirst => ?_⟩,
      fun h5 h30 h8 => by omega, fun m _ => congrArg (laneOf · m) hwork, ?_⟩
    · exact ⟨(hresult hfirst).1, (hresult hfirst).2.trans hw⟩
    · have hall := congrArg State.nextRecord hframe
      have hlanes : s.atParameter.refuseRecord.nextRecord.working.lanes = s.working.lanes :=
        (congrArg NodeConfig.lanes hwork :)
      rw [hlanes]
      exact hall
  · have h5 : 5 ≤ field 1 * 256 + field 2 := by omega
    have h30 : field 1 * 256 + field 2 ≤ 30000 := by omega
    have h8 : field 0 % 128 < 8 := by omega
    obtain ⟨lr, hlr⟩ : ∃ lr, laneRecordOf (laneOf s.working l) new = some lr :=
      ⟨_, laneRecordOf_applied _ hnewlen hfield h5 h30 h8⟩
    have happly : s.atParameter.applyLaneRecord new = { s.atParameter with working := { s.working with
        lanes := s.working.lanes.set l.idx.val lr l.idx.isLt } } := State.applyLaneRecord_applied hw hlr
    rw [happly]
    refine ⟨rfl, Port.nextIndex_eq hp hw, fun hx => absurd hx hbad, fun _ _ _ => ?_, fun m hm => ?_, rfl⟩
    · have hself := (setLaneRecord_laneOf s.working l l lr).trans ((if_pos rfl).trans (Option.some.inj
        (hlr.symm.trans (laneRecordOf_applied _ hnewlen hfield h5 h30 h8))))
      refine ⟨congrArg LaneRecord.enabled hself, congrArg (fun r => (LaneRecord.slot r).val) hself,
        congrArg LaneRecord.unitWeight hself, congrArg LaneRecord.allowance hself, congrArg LaneRecord.baseTol hself,
        congrArg LaneRecord.motion hself, congrArg LaneRecord.band hself, congrArg LaneRecord.settleCount hself,
        fun h0 => ⟨?_, ?_, ?_⟩, fun h0 => ⟨?_, ?_, ?_⟩, rfl, rfl⟩
      · exact (congrArg LaneRecord.zeroCode hself).trans (if_pos h0)
      · exact (congrArg LaneRecord.span hself).trans (if_pos h0)
      · exact (congrArg LaneRecord.spanCaptured hself).trans (if_pos h0)
      · exact (congrArg LaneRecord.zeroCode hself).trans (if_neg h0)
      · exact (congrArg LaneRecord.span hself).trans (if_neg h0)
      · exact (congrArg LaneRecord.spanCaptured hself).trans (if_neg h0)
    · exact (setLaneRecord_laneOf s.working l m lr).trans (if_neg hm)

end Sys2Proof.Machine
end

section
/-! The captures of a zero and of a span (section 9.6). -/

namespace Sys2Proof.Machine

open Sys2Proof.Config

/-! ## The parameters of a capture (R159) -/

/-- A capture command completes: nothing but the port's items changes (R159). -/
theorem State.beginCapture_spec (s : State) (op : Operation) (l : Lane) (load : Nat) :
    (s.beginCapture op l load).port.command = .none ∧
    (s.frontEnd.supplyHold = false → (s.beginCapture op l load).port.operation = op ∧
      (s.beginCapture op l load).port.result = .busy ∧ (s.beginCapture op l load).port.detail = 0 ∧
      (s.beginCapture op l load).port.capture = some { lane := l, load := load, samples := 0, sum := 0 }) ∧
    (s.frontEnd.supplyHold = true → (s.beginCapture op l load).port.operation = s.port.operation ∧
      (s.beginCapture op l load).port.capture = s.port.capture ∧
      (s.beginCapture op l load).port.result = .captureFailed ∧ (s.beginCapture op l load).port.detail = l.number) ∧
    s.beginCapture op l load = { s with port := (s.beginCapture op l load).port } := by
  unfold State.beginCapture
  split
  · next h => exact ⟨rfl, fun hf => absurd (h.symm.trans hf) (by decide), fun _ => ⟨rfl, rfl, rfl, rfl⟩, rfl⟩
  · next h => exact ⟨rfl, fun _ => ⟨rfl, rfl, rfl, rfl⟩, fun ht => absurd ht h, rfl⟩

theorem laneOfNumber_eq {n : Nat} {l : Lane} (h : n = l.number) : Lane.ofNumber n = some l :=
  h ▸ laneOfNumber_number l

theorem laneOfNumber_none {n : Nat} (h : ∀ l : Lane, n ≠ l.number) : Lane.ofNumber n = none := by
  unfold Lane.ofNumber
  split
  · exact absurd rfl (h .l1)
  · exact absurd rfl (h .l2)
  · exact absurd rfl (h .l3)
  · exact absurd rfl (h .l4)
  · rfl

section

variable (s : State) {l : Lane} {b lane b1 b2 : Byte}

theorem State.paramCaptureZero_begins (h : b.toNat = l.number) :
    s.paramCaptureZero b = s.beginCapture .captureZero l 0 := by
  unfold State.paramCaptureZero
  rw [laneOfNumber_eq h]

theorem State.paramCaptureZero_refused (h : ∀ m : Lane, b.toNat ≠ m.number) : s.paramCaptureZero b = s.refuse 0 := by
  unfold State.paramCaptureZero
  rw [laneOfNumber_none h]

theorem State.paramCaptureSpan_refused (h : ∀ m : Lane, b.toNat ≠ m.number) (load : List Byte) :
    s.paramCaptureSpan (b :: load) = s.refuse 0 := by
  unfold State.paramCaptureSpan
  dsimp only
  rw [laneOfNumber_none h]

/-- The lane's byte and the first two of the load are kept (R151, R159). -/
theorem State.paramCaptureSpan_kept (h : lane.toNat = l.number) {load : List Byte} (hlen : load.length ≠ 3) :
    s.paramCaptureSpan (lane :: load) = s.keep (lane :: load) := by
  unfold State.paramCaptureSpan
  dsimp only
  rw [laneOfNumber_eq h]
  exact if_neg hlen

theorem fieldNat_load (b1 b2 b : Byte) : fieldNat [b1, b2, b] = b1.toNat * 65536 + b2.toNat * 256 + b.toNat := by
  simp [fieldNat]
  omega

/-- The last byte of the load has it judged whole (R159, log 26). -/
theorem State.paramCaptureSpan_whole (h : lane.toNat = l.number) {load : Nat}
    (hload : load = b1.toNat * 65536 + b2.toNat * 256 + b.toNat) : s.paramCaptureSpan [lane, b1, b2, b] =
      if 100 ≤ load ∧ load ≤ 99999 then s.beginCapture .captureSpan l load else s.refuse 1 := by
  unfold State.paramCaptureSpan
  dsimp only
  rw [laneOfNumber_eq h, fieldNat_load, ← hload]
  rfl

end

/-! ## The samples of a capture (R159, R160) -/

theorem State.setWorkingLane_laneOf (s : State) (l m : Lane) (lr : LaneRecord) :
    laneOf (s.setWorkingLane l lr).working m = if m = l then lr else laneOf s.working m :=
  setLaneRecord_laneOf s.working l m lr

/-- The span that a capture gives: none below 1 and above 65,535 and for a load that does not exceed the zero (R160). -/
theorem capturedSpan_spec (load : Nat) {sum zero den : Int} (hden : den = sum - 32 * zero) :
    (den ≤ 0 → capturedSpan load sum zero = none) ∧
    (0 < den → ∃ q, RoundsTo ((load : Int) * 65536 * 32) den.toNat q ∧
      (1 ≤ q ∧ q ≤ 65535 → capturedSpan load sum zero = some q.toNat) ∧
      (q < 1 ∨ 65535 < q → capturedSpan load sum zero = none)) := by
  subst hden
  unfold capturedSpan
  dsimp only
  refine ⟨fun h => if_pos h, fun h => ⟨_, roundDiv_rounds _ _ (by omega), fun hq => ?_, fun hq => ?_⟩⟩
  · rw [if_neg (by omega), if_pos (by omega)]
  · rw [if_neg (by omega), if_neg (by omega)]

/-- The end of a capture at its 32nd sample (R160). -/
theorem State.completeCapture_spec (s : State) {c : Capture} {l : Lane} (hl : c.lane = l) :
    (s.completeCapture c).port.operation = .none ∧ (s.completeCapture c).port.capture = none ∧
    (s.completeCapture c).port.detail = 0 ∧
    (∀ m, m ≠ l → laneOf (s.completeCapture c).working m = laneOf s.working m) ∧
    (s.port.operation = .captureZero → (s.completeCapture c).port.result = .ok ∧ ∃ z, RoundsTo c.sum 32 z ∧
      laneOf (s.completeCapture c).working l = { laneOf s.working l with zeroCode := z }) ∧
    (s.port.operation = .captureSpan → ∀ den, den = c.sum - 32 * (laneOf s.working l).zeroCode →
      (den ≤ 0 → (s.completeCapture c).port.result = .refusedRange ∧ (s.completeCapture c).working = s.working) ∧
      (0 < den → ∃ q, RoundsTo ((c.load : Int) * 65536 * 32) den.toNat q ∧
        (1 ≤ q ∧ q ≤ 65535 → (s.completeCapture c).port.result = .ok ∧
          laneOf (s.completeCapture c).working l = { laneOf s.working l with span := q.toNat, spanCaptured := true }) ∧
        (q < 1 ∨ 65535 < q → (s.completeCapture c).port.result = .refusedRange ∧
          (s.completeCapture c).working = s.working))) ∧
    s.completeCapture c = { s with
      working := { s.working with lanes := (s.completeCapture c).working.lanes }, port := (s.completeCapture c).port } := by
  subst hl
  unfold State.completeCapture
  dsimp only
  split
  · next hop =>
    refine ⟨rfl, rfl, rfl, fun m hm => (State.setWorkingLane_laneOf s c.lane m _).trans (if_neg hm), fun _ =>
      ⟨rfl, _, roundDiv_rounds _ _ (by decide), (State.setWorkingLane_laneOf s c.lane c.lane _).trans (if_pos rfl)⟩,
      fun h => absurd (hop.symm.trans h) (by decide), rfl⟩
  · next hop =>
    split
    · next span hspan =>
      refine ⟨rfl, rfl, rfl, fun m hm => (State.setWorkingLane_laneOf s c.lane m _).trans (if_neg hm),
        fun h => absurd h hop, fun _ den hden => ?_, rfl⟩
      obtain ⟨hlow, hhigh⟩ := capturedSpan_spec c.load hden
      refine ⟨fun h => absurd (hspan.symm.trans (hlow h)) (by simp), fun h => ?_⟩
      obtain ⟨q, hq, hin, hout⟩ := hhigh h
      refine ⟨q, hq, fun hr => ⟨rfl, ?_⟩, fun hr => absurd (hspan.symm.trans (hout hr)) (by simp)⟩
      rw [Option.some.inj ((hin hr).symm.trans hspan)]
      exact (State.setWorkingLane_laneOf s c.lane c.lane _).trans (if_pos rfl)
    · next hspan =>
      refine ⟨rfl, rfl, rfl, fun m hm => rfl, fun h => absurd h hop, fun _ den hden => ⟨fun h => ⟨rfl, rfl⟩, fun h => ?_⟩, rfl⟩
      obtain ⟨q, hq, hin, hout⟩ := (capturedSpan_spec c.load hden).2 h
      exact ⟨q, hq, fun hr => absurd (hspan.symm.trans (hin hr)) (by simp), fun hr => ⟨rfl, rfl⟩⟩

section

variable {s : State} {l : Lane} {x : Sample} {c : Capture} (hc : s.port.capture = some c) (hl : c.lane = l)

include hc hl

theorem State.captureSample_saturated (h : x.raw = 8388607 ∨ x.raw = -8388608) :
    s.captureSample l x = s.endCapture .captureFailed l.number := by
  unfold State.captureSample
  rw [hc]
  dsimp only
  rw [if_neg (fun h => h hl), if_pos h]
  unfold State.failCapture
  rw [hc]
  dsimp only
  rw [hl]

theorem State.captureSample_adds (hhigh : x.raw ≠ 8388607) (hlow : x.raw ≠ -8388608) (h : c.samples + 1 ≠ 32) :
    s.captureSample l x = { s with port := { s.port with
      capture := some { c with samples := c.samples + 1, sum := c.sum + x.raw } } } := by
  unfold State.captureSample
  rw [hc]
  dsimp only
  rw [if_neg (fun h => h hl), if_neg (fun h => h.elim hhigh hlow), if_neg h]

theorem State.captureSample_completes (hhigh : x.raw ≠ 8388607) (hlow : x.raw ≠ -8388608) (h : c.samples + 1 = 32) :
    s.captureSample l x = s.completeCapture { c with samples := c.samples + 1, sum := c.sum + x.raw } := by
  unfold State.captureSample
  rw [hc]
  dsimp only
  rw [if_neg (fun h => h hl), if_neg (fun h => h.elim hhigh hlow), if_pos h]

/-- A sample of a capture's lane is a matter of the port and of the working copy's lanes. -/
theorem State.captureSample_frame : s.captureSample l x = { s with
    working := { s.working with lanes := (s.captureSample l x).working.lanes }, port := (s.captureSample l x).port } := by
  by_cases hsat : x.raw = 8388607 ∨ x.raw = -8388608
  · rw [State.captureSample_saturated hc hl hsat]
    rfl
  · rw [not_or] at hsat
    by_cases h : c.samples + 1 = 32
    · rw [State.captureSample_completes hc hl hsat.1 hsat.2 h]
      obtain ⟨-, -, -, -, -, -, hframe⟩ :=
        s.completeCapture_spec (c := { c with samples := c.samples + 1, sum := c.sum + x.raw }) hl
      exact hframe
    · rw [State.captureSample_adds hc hl hsat.1 hsat.2 h]

end

theorem exec_sampleEvent_due {s : State} {l : Lane} (code : BitVec 24) (first : Bool) (h : s.conversionDue l = true)
    (hw : (s.lane l).warmUp = 0) {x : Sample}
    (hx : x = sampleOf (laneOf s.config l) ((s.lane l).counting.arithmeticOffset first) code) :
    exec (.sampleEvent l code first) s = .next ((s.taken l x).handOn l x) := by
  subst hx
  exact congrArg Host.Outcome.next ((if_pos h).trans (if_neg (by rw [hw]; exact Nat.lt_irrefl 0)))

/-- A capture in progress fails as supply hold begins (R15, R161). -/
theorem State.beginSupplyHold_capture {s : State} {c : Capture} (hn : s.startUp.node = .configuring)
    (hop : s.port.operation = .captureZero ∨ s.port.operation = .captureSpan) (hc : s.port.capture = some c) :
    s.beginSupplyHold = State.endCapture { s with frontEnd := s.frontEnd.held } .captureFailed c.lane.number := by
  rw [State.beginSupplyHold_of_configuring hn]
  unfold State.failOperation State.failCapture
  rcases hop with hop | hop <;> dsimp only <;> rw [hop, hc]

/-! ## The capture as a whole -/

/-- The last parameter of a capture begins it, or fails it in supply hold (R159). -/
theorem exec_parameterByte_beginsCapture {s : State} {l : Lane} {b : Byte} {op : Operation} {load : Nat}
    (hsel : s.pins.cpselLow = true) (hn : s.startUp.node = .configuring) (hforms : Forms s b)
    (h : s.port.command = .active .captureZero ∧ b.toNat = l.number ∧ op = .captureZero ∧ load = 0 ∨
      ∃ lane b1 b2 : Byte, s.port.command = .active .captureSpan ∧ s.port.params = [lane, b1, b2] ∧
        lane.toNat = l.number ∧ op = .captureSpan ∧ load = b1.toNat * 65536 + b2.toNat * 256 + b.toNat ∧
        100 ≤ load ∧ load ≤ 99999) :
    exec (.parameterByte b) s = .next (s.atParameter.beginCapture op l load) := by
  have hnode : s.startUp.node ≠ .starting := by rw [hn]; decide
  rcases h with ⟨hcmd, hb, rfl, rfl⟩ | ⟨lane, b1, b2, hcmd, hp, hlane, rfl, hload, h100, h99⟩
  · exact (exec_parameterByte hsel hnode hforms hcmd).trans
      (congrArg Host.Outcome.next (State.paramCaptureZero_begins _ hb))
  · have htake : s.atParameter.takeParameter .captureSpan b = s.atParameter.paramCaptureSpan [lane, b1, b2, b] :=
      congrArg (fun p => s.atParameter.paramCaptureSpan (p ++ [b])) hp
    rw [exec_parameterByte hsel hnode hforms hcmd, htake, State.paramCaptureSpan_whole _ hlane hload, if_pos ⟨h100, h99⟩]

/-- Parameters of a capture that are refused or kept (R151, R159). -/
theorem exec_parameterByte_ofCapture {s : State} {b : Byte} (l : Lane) (hsel : s.pins.cpselLow = true)
    (hn : s.startUp.node = .configuring) (hforms : Forms s b) : ∃ t, exec (.parameterByte b) s = .next t ∧
      (∀ position,
        (s.port.command = .active .captureZero ∨ s.port.command = .active .captureSpan ∧ s.port.params = []) ∧
            (∀ m : Lane, b.toNat ≠ m.number) ∧ position = 0 ∨
          (∃ lane b1 b2 : Byte, s.port.command = .active .captureSpan ∧ s.port.params = [lane, b1, b2] ∧
            lane.toNat = l.number ∧ (b1.toNat * 65536 + b2.toNat * 256 + b.toNat < 100 ∨
              99999 < b1.toNat * 65536 + b2.toNat * 256 + b.toNat) ∧ position = 1) →
        t = s.atParameter.refuse position) ∧
      (s.port.command = .active .captureSpan →
        s.port.params = [] ∧ b.toNat = l.number ∨
          (∃ lane : Byte, lane.toNat = l.number ∧ (s.port.params = [lane] ∨ ∃ b1, s.port.params = [lane, b1])) →
        t = s.atParameter.keep (s.port.params ++ [b])) := by
  have hnode : s.startUp.node ≠ .starting := by rw [hn]; decide
  rcases hcmd : s.port.command with _ | _ | c
  · exact ⟨_, exec_parameterByte_idle hsel hnode hforms (.inl hcmd), fun p h => by simp at h, fun h => (by cases h)⟩
  · exact ⟨_, exec_parameterByte_idle hsel hnode hforms (.inr hcmd), fun p h => by simp at h, fun h => (by cases h)⟩
  · refine ⟨_, exec_parameterByte hsel hnode hforms hcmd, fun position h => ?_, fun hc h => ?_⟩
    · rcases h with ⟨hc | ⟨hc, hp⟩, hb, rfl⟩ | ⟨lane, b1, b2, hc, hp, hlane, hload, rfl⟩ <;> cases hc
      · exact State.paramCaptureZero_refused _ hb
      · exact (congrArg (fun p => s.atParameter.paramCaptureSpan (p ++ [b])) hp).trans
          (State.paramCaptureSpan_refused _ hb [])
      · exact (congrArg (fun p => s.atParameter.paramCaptureSpan (p ++ [b])) hp).trans
          ((State.paramCaptureSpan_whole _ hlane rfl).trans (if_neg (by omega)))
    · cases hc
      rcases h with ⟨hp, hb⟩ | ⟨lane, hlane, hp | ⟨b1, hp⟩⟩ <;>
        refine (congrArg (fun p => s.atParameter.paramCaptureSpan (p ++ [b])) hp).trans ?_ <;> rw [hp]
      · exact State.paramCaptureSpan_kept _ hb (load := []) (by decide)
      · exact State.paramCaptureSpan_kept _ hlane (load := [b]) (show (1 : Nat) ≠ 3 by decide)
      · exact State.paramCaptureSpan_kept _ hlane (load := [b1, b]) (show (2 : Nat) ≠ 3 by decide)

/-- The 32nd sample that falls together with a supply hold stays the lane's last, and the capture has failed (R161, log 28). -/
theorem exec_sampleEvent_late {s : State} {l : Lane} {c : Capture} (code : BitVec 24) (first : Bool)
    (hn : s.startUp.node = .configuring) (hconv : Converts s l) (hw : (s.lane l).warmUp = 0) (hc : s.port.capture = some c)
    (hl : c.lane = l) (h31 : c.samples = 31) (hop : s.port.operation = .captureZero ∨ s.port.operation = .captureSpan)
    (hd : s.frontEnd.dipFilter = .running 0) :
    ∃ m t, exec .dipFilterExpiry s = .next m ∧ exec (.sampleEvent l code first) m = .next t ∧
      (t.lane l).lastSample = sampleOf (laneOf s.working l) ((s.lane l).counting.arithmeticOffset first) code ∧
      (∀ k, k ≠ l → t.lane k = s.lane k) ∧ t.working = s.working ∧ t.frontEnd.supplyHold = true ∧
      t.port = { s.port with
        operation := .none, capture := none, result := .captureFailed, detail := l.number } ∧
      exec (.sampleEvent l code first) t = .next t := by
  have hfinal : s.finalSample = some l :=
    (s.finalSample_iff l).mpr ⟨hn, c, hc, hl, h31, hw, State.conversionDue_of_converts hconv⟩
  obtain ⟨m, hm⟩ : ∃ m, m = State.endCapture { s with frontEnd := (s.dipExpired (some l)).frontEnd.held } .captureFailed
      l.number := ⟨_, rfl⟩
  have hexpiry : exec .dipFilterExpiry s = .next m := by
    rw [exec_dipFilterExpiry hd hconv.supplied, hfinal,
      State.beginSupplyHold_capture (s := s.dipExpired (some l)) hn hop hc, hm, ← hl]
    rfl
  have hdue : m.conversionDue l = true := by
    unfold State.conversionDue
    rw [Bool.or_eq_true]
    exact .inr (decide_eq_true (by rw [hm]; rfl))
  have hsample : (sampleOf (laneOf s.working l) ((s.lane l).counting.arithmeticOffset first) code) =
      sampleOf (laneOf m.config l) ((m.lane l).counting.arithmeticOffset first) code := by
    subst hm
    unfold State.config
    rw [show (State.endCapture { s with frontEnd := (s.dipExpired (some l)).frontEnd.held } .captureFailed
      l.number).startUp.node = .configuring from hn]
    rfl
  have hhand : ∀ x, (m.taken l x).handOn l x = m.taken l x := fun x => by
    unfold State.handOn
    rw [show (m.taken l x).startUp.node = .configuring by rw [hm]; exact hn]
    unfold State.captureSample
    rw [show (m.taken l x).port.capture = none by rw [hm]; rfl]
  refine ⟨m, _, hexpiry, exec_sampleEvent_due code first hdue (by rw [hm]; exact hw) hsample, ?_⟩
  rw [hhand]
  subst hm
  refine ⟨congrArg LaneUnit.lastSample (State.taken_lane_self _ l _), fun k hk => State.taken_lane_of_ne _ _ hk, rfl, rfl,
    rfl, exec_sampleEvent_not code first ?_⟩
  rfl

/-- Settles O56. -/
theorem capturesTakeThirtyTwoSamples : Obligations.CapturesTakeThirtyTwoSamples := by
  intro s l
  refine ⟨fun b op load hsel hn hforms h => ⟨_, exec_parameterByte_beginsCapture hsel hn hforms h, ?_⟩,
    fun b hsel hn hforms => ?_, fun c code first hn hconv hw hc hl => ?_,
    fun c code first hn hconv hw hc hl h31 hop hd => exec_sampleEvent_late code first hn hconv hw hc hl h31 hop hd⟩
  · obtain ⟨hcmd, hrun, hheld, hframe⟩ := s.atParameter.beginCapture_spec op l load
    exact ⟨hcmd, hrun, hheld, hframe⟩
  · obtain ⟨t, ht, hrefused, hkept⟩ := exec_parameterByte_ofCapture l hsel hn hforms
    refine ⟨t, ht, fun position h => ?_, fun hcmd h => ?_⟩
    · rw [hrefused position h]
      exact ⟨rfl, rfl, rfl, rfl, rfl, rfl⟩
    · rw [hkept hcmd h]
      exact ⟨rfl, hcmd, rfl, rfl, rfl⟩
  · obtain ⟨x, hx⟩ : ∃ x, x = sampleOf (laneOf s.config l) ((s.lane l).counting.arithmeticOffset first) code := ⟨_, rfl⟩
    have hraw : x.raw = code.toInt := by rw [hx, sampleOf_raw]
    have hhand : (s.taken l x).handOn l x = (s.taken l x).captureSample l x := by
      unfold State.handOn
      rw [show (s.taken l x).startUp.node = .configuring from hn]
    refine ⟨_, exec_sampleEvent_due code first (State.conversionDue_of_converts hconv) hw hx, ?_⟩
    rw [hhand, ← hraw]
    have hcap : (s.taken l x).port.capture = some c := hc
    refine ⟨fun hsat => ?_, fun hhigh hlow h32 => ?_, fun hhigh hlow h32 => ?_, ?_⟩
    · rw [State.captureSample_saturated hcap hl hsat]
      exact ⟨rfl, rfl⟩
    · rw [State.captureSample_adds hcap hl hhigh hlow (by omega)]
      exact ⟨rfl, rfl⟩
    · rw [State.captureSample_completes hcap hl hhigh hlow h32]
      obtain ⟨hop, hnone, hdetail, hothers, hzero, hspan, -⟩ := (s.taken l x).completeCapture_spec
        (c := { c with samples := c.samples + 1, sum := c.sum + x.raw }) hl
      exact ⟨hop, hnone, hdetail, hothers, hzero, hspan⟩
    · have hframe := State.captureSample_frame (x := x) hcap hl
      have hlanes : ((s.taken l x).captureSample l x).lanes = (s.taken l x).lanes :=
        (congrArg State.lanes hframe :)
      rw [hlanes]
      exact hframe

end Sys2Proof.Machine
end

section
/-! The start of a transmission (sections 7.4 and 8.3): the queue's order, the frame that is built, its launch. -/

namespace Sys2Proof.Machine

open Sys2Proof.Config

/-! ## The queue's order (R143) -/

theorem Request.goesBefore_iff (r q : Request) : r.goesBefore q = true ↔ keyKind r.key < keyKind q.key ∨
    keyKind r.key = keyKind q.key ∧ (r.age < q.age ∨ r.age = q.age ∧ keyOrder r.key < keyOrder q.key) := by
  simp [Request.goesBefore]

theorem Request.not_goesBefore_of_goesBefore {r q : Request} (h : r.goesBefore q = true) : ¬ q.goesBefore r = true := by
  rw [Request.goesBefore_iff] at h ⊢
  omega

theorem mem_of_firstWaiting {q : List Request} {r : Request} (h : firstWaiting q = some r) : r ∈ q ∧ r.inFlight = false := by
  induction q with
  | nil => cases h
  | cons x rest ih =>
    unfold firstWaiting at h
    split at h
    · split at h
      · cases h
      · next hx =>
        cases h
        exact ⟨List.mem_cons_self, Bool.eq_false_iff.mpr hx⟩
    · next p hp =>
      have htail (hpr : some p = some r) : r ∈ x :: rest ∧ r.inFlight = false :=
        ⟨List.mem_cons_of_mem x (ih (hp.trans hpr)).1, (ih (hp.trans hpr)).2⟩
      split at h
      · exact htail h
      · next hx =>
        split at h
        · exact htail h
        · cases h
          exact ⟨List.mem_cons_self, Bool.eq_false_iff.mpr hx⟩

/-- The WAITING request that goes before every other is the first (R143). -/
theorem firstWaiting_eq {q : List Request} {r : Request} (hr : r ∈ q) (hw : r.inFlight = false)
    (hfirst : ∀ p ∈ q, p.inFlight = false → p ≠ r → r.goesBefore p = true) : firstWaiting q = some r := by
  induction q with
  | nil => cases hr
  | cons x rest ih =>
    have hrest : ∀ p ∈ rest, p.inFlight = false → p ≠ r → r.goesBefore p = true := fun p hp =>
      hfirst p (List.mem_cons_of_mem x hp)
    unfold firstWaiting
    by_cases hmem : r ∈ rest
    · rw [ih hmem hrest]
      dsimp only
      split
      · rfl
      · next hx =>
        split
        · rfl
        · next hbefore =>
          by_cases hxr : x = r
          · rw [hxr]
          · exact absurd (hfirst x List.mem_cons_self (Bool.eq_false_iff.mpr hx) hxr) hbefore
    · obtain rfl : r = x := (List.mem_cons.mp hr).resolve_right hmem
      split
      · exact if_neg (by rw [hw]; decide)
      · next p hp =>
        obtain ⟨hpm, hpw⟩ := mem_of_firstWaiting hp
        have hafter := Request.not_goesBefore_of_goesBefore (hrest p hpm hpw fun h => hmem (h ▸ hpm))
        rw [if_neg (by rw [hw]; decide), if_neg hafter]

/-- A start needs no more turns than there are requests (R124). -/
theorem State.startNext_fuel (n m : Nat) (s : State) (hn : s.queue.requests.length ≤ n) (hm : s.queue.requests.length ≤ m) :
    s.startNext n = s.startNext m := by
  have hnone : ∀ k, s.queue.requests.length ≤ 0 → s.startNext k = s := fun k h0 => by
    have hempty : s.queue.requests = [] := List.eq_nil_of_length_eq_zero (Nat.le_zero.mp h0)
    cases k with
    | zero => rfl
    | succ k =>
      unfold State.startNext
      rw [hempty]
      rfl
  induction n generalizing s m with
  | zero => rw [hnone 0 hn, hnone m hn]
  | succ n ih =>
    cases m with
    | zero => rw [hnone (n + 1) hm, hnone 0 hm]
    | succ m =>
      unfold State.startNext
      split
      · rfl
      · next r hr =>
        split
        · rfl
        · have hshort : (s.dropRequest r.key).queue.requests.length < s.queue.requests.length :=
            List.length_filter_lt_length_iff_exists.mpr ⟨r, (mem_of_firstWaiting hr).1, by simp⟩
          refine ih m _ (by omega) (by omega) fun k h0 => ?_
          have hempty := List.eq_nil_of_length_eq_zero (Nat.le_zero.mp h0)
          cases k with
          | zero => rfl
          | succ k =>
            unfold State.startNext
            rw [hempty]
            rfl

/-! ## What is built (R136) -/

/-- The window of an OFFER: its remaining time in whole seconds rounded up, 1 s at the least (R59). -/
theorem offerWindow_spec (remaining : Nat) : 1 ≤ max 1 (wholeSeconds remaining) ∧
    remaining ≤ max 1 (wholeSeconds remaining) * 1000000 ∧
    (1 < max 1 (wholeSeconds remaining) → (max 1 (wholeSeconds remaining) - 1) * 1000000 < remaining) ∧
    (remaining ≤ 120000000 → max 1 (wholeSeconds remaining) ≤ 120) := by
  have hceil := fun k => ceilDiv_le_iff remaining 1000000 k (by decide)
  unfold wholeSeconds
  have hup := (hceil (ceilDiv remaining 1000000)).mpr (Nat.le_refl _)
  have hdown := hceil (ceilDiv remaining 1000000 - 1)
  have hcap := hceil 120
  omega

section

variable (s : State) {r : Request}

theorem State.build_offer {tag : Byte} {e : PendingOut} (hk : r.key = .offer tag)
    (he : s.matcher.pendingOut.find? (fun e => decide (e.tag = tag)) = some e) : s.build r =
      some (.offer tag (BitVec.ofNat 24 e.article) (BitVec.ofNat 16 e.count) (BitVec.ofNat 24 e.grams)
        (BitVec.ofNat 16 e.tol) (BitVec.ofNat 8 (max 1 (wholeSeconds e.remaining)))) := by
  have htag : e.tag = tag := by simpa using List.find?_some he
  unfold State.build State.pendingOf
  rw [hk]
  dsimp only
  rw [he, ← htag]
  rfl

theorem State.build_notice {l : Lane} (hk : r.key = .notice l) : s.build r =
    some (.notice (BitVec.ofNat 8 l.number) (BitVec.ofNat 24 (articleOfLane s.running l))
      (BitVec.ofNat 8 ((if (s.lane l).notice.audit = true then 1 else 0) +
        (if (s.lane l).notice.foreign = true then 2 else 0) + if (s.lane l).notice.fault = true then 4 else 0))) := by
  unfold State.build
  rw [hk]
  rfl

theorem State.build_stock {i : Slot} (hk : r.key = .stock i) : s.build r =
    some (.stock (BitVec.ofNat 24 (slotOf s.running i).article) (BitVec.ofNat 16 (s.slot i).holding)
      (if (s.slot i).uncertain = true then 1 else 0)) := by
  unfold State.build flagBit
  rw [hk]
  dsimp only
  split <;> rfl

theorem State.build_claim {station : Nat} {tag : Byte} {type : ClaimType} (hk : r.key = .claim station tag)
    (ht : r.claimType = some type) : s.build r =
      some (.claim (BitVec.ofNat 8 station) tag (if type = .relocation then 1 else 2)) := by
  unfold State.build
  rw [hk]
  dsimp only
  rw [ht]
  cases type <;> rfl

theorem State.build_presence (hk : r.key = .presence) : s.build r =
    some (.presence (BitVec.ofNat 8 ((if s.queue.restartFlag = true then 128 else 0) +
      match s.startUp.cause with
      | .powerOn => 1
      | .supplyDip => 2
      | .pin => 3
      | .command => 4)) (BitVec.ofNat 8 s.link.health)) := by
  unfold State.build restartByteOf causeCode
  rw [hk]
  rfl

end

/-! ## The start (R124) -/

theorem State.mayStart_iff (s : State) : s.mayStart = true ↔ s.link.state = .active ∧ s.frontEnd.supplyHold = false ∧
    s.link.flight = none ∧ s.link.receiver = .searching ∧ (if s.link.spacing then 15 else 11) ≤ s.link.recessiveCount ∧
    s.queue.requests ≠ [] := by
  simp [State.mayStart, Link.idleForStart, and_assoc]

theorem exec_transmissionStart_of {s : State} (h : s.mayStart = true) :
    exec .transmissionStart s = .next (s.startNext s.queue.requests.length) :=
  congrArg Host.Outcome.next (if_pos h)

theorem exec_transmissionStart_of_not {s : State} (h : ¬ s.mayStart = true) : exec .transmissionStart s = .next s :=
  congrArg Host.Outcome.next (if_neg h)

/-- A frame that starts, in its link (R124, R127). -/
theorem Link.launch_spec (k : Link) (f : Flight) :
    (k.launch f).flight = some f ∧
    (k.driverInhibited = false → (k.launch f).driver = .driving ∧ (k.launch f).recessiveCount = 0 ∧
      (k.launch f).spacing = false ∧ (k.launch f).receiver = .inCharacter ∧ (k.launch f).buffer = [] ∧
      (k.launch f).bits = []) ∧
    (k.driverInhibited = true → (k.launch f).driver = .released) ∧ (k.launch f).dominantTimer = 0 ∧
    (k.launch f).health = k.health ∧ (k.launch f).state = k.state := by
  unfold Link.launch
  split
  · next h => exact ⟨rfl, fun hf => absurd (h.symm.trans hf) (by decide), fun _ => rfl, rfl, rfl, rfl⟩
  · next h => exact ⟨rfl, fun _ => ⟨rfl, rfl, rfl, rfl, rfl, rfl⟩, fun ht => absurd ht h, rfl, rfl, rfl⟩

/-- The owner of a request that starts keeps a status for an OFFER alone (R59). -/
theorem State.startOwner_spec (s : State) (k : RequestKey) :
    ((∀ tag, k ≠ .offer tag) → s.startOwner k = s) ∧ (∀ tag, k = .offer tag → s.startOwner k = s.moveOffer tag .queued .sending) ∧
    s.startOwner k = { s with matcher := (s.startOwner k).matcher } := by
  cases k with
  | offer tag => exact ⟨fun h => absurd rfl (h tag), fun t ht => (by cases ht; rfl), rfl⟩
  | shock | claim | alert | notice | stock | presence =>
    exact ⟨fun _ => rfl, fun t ht => (by cases ht), rfl⟩

/-- The frame that starts for a request (R143). -/
def State.flightFor (s : State) (r : Request) (p : Payload) : Flight :=
  { frame := { station := s.ownStation, payload := p }
    key := r.key
    position := 0
    detached := false
    delivered := false }

theorem State.launch_eq (s : State) (r : Request) (p : Payload) : s.launch r p = State.startOwner
    { s with
      queue := { s.queue with requests := markInFlight r.key s.queue.requests }
      link := s.link.launch (s.flightFor r p) } r.key := rfl

/-- Settles O46. -/
theorem transmissionStartTakesFirstRequest : Obligations.TransmissionStartTakesFirstRequest := by
  intro s
  refine ⟨fun h => exec_transmissionStart_of_not fun hm => ?_, fun r => ⟨fun hk => ?_, fun station tag type hk ht =>
    s.build_claim hk ht, fun tag e hk he => ⟨_, s.build_offer hk he, offerWindow_spec e.remaining⟩,
    fun l hk => s.build_notice hk, fun i hk => s.build_stock hk, fun hk => s.build_presence hk⟩,
    fun r hstate hsupply hflight hrec h11 hspacing hr hw hbefore => ?_⟩
  · obtain ⟨hstate, hsupply, hflight, hrec, hcount, hqueue⟩ := s.mayStart_iff.mp hm
    rw [hflight] at h
    rcases h with h | h | h | h | h | h | ⟨hs, h⟩
    · exact h hstate
    · rw [hsupply] at h; cases h
    · cases h
    · exact hqueue h
    · exact h hrec
    · split at hcount <;> omega
    · rw [if_pos hs] at hcount; omega
  · unfold State.build
    rw [hk]
  · have hfirst : firstWaiting s.queue.requests = some r :=
      firstWaiting_eq hr hw fun p hp hpw hne => (r.goesBefore_iff p).mpr (hbefore p hp hpw hne)
    have hcount : (if s.link.spacing then 15 else 11) ≤ s.link.recessiveCount := by
      split
      · exact hspacing ‹_›
      · exact h11
    have hmay : s.mayStart = true :=
      s.mayStart_iff.mpr ⟨hstate, hsupply, hflight, hrec, hcount, List.ne_nil_of_mem hr⟩
    obtain ⟨n, hn⟩ : ∃ n, s.queue.requests.length = n + 1 :=
      Nat.exists_eq_succ_of_ne_zero fun h => List.ne_nil_of_mem hr (List.eq_nil_of_length_eq_zero h)
    refine ⟨fun hbuild => ?_, fun p hbuild => ⟨s.launch r p, ?_, ?_⟩⟩
    · rw [exec_transmissionStart_of hmay, hn, State.startNext_of_unbuilt hfirst hbuild]
      obtain ⟨u, hu⟩ : ∃ u, u = s.dropRequest r.key := ⟨_, rfl⟩
      have hshort : u.queue.requests.length < s.queue.requests.length := by
        rw [hu]
        exact List.length_filter_lt_length_iff_exists.mpr ⟨r, hr, by simp⟩
      have hdrop : ({ s with queue := { s.queue with
          requests := s.queue.requests.filter fun q => decide (q.key ≠ r.key) } } : State) = u := hu.symm
      rw [hdrop, ← hu]
      by_cases hempty : u.queue.requests = []
      · have hnot : ¬ u.mayStart = true := fun h => (u.mayStart_iff.mp h).2.2.2.2.2 hempty
        rw [exec_transmissionStart_of_not hnot, State.startNext_fuel n 0 u (by omega) (by rw [hempty]; exact Nat.le_refl 0)]
        rfl
      · have hgo : u.mayStart = true :=
          u.mayStart_iff.mpr ⟨by rw [hu]; exact hstate, by rw [hu]; exact hsupply, by rw [hu]; exact hflight,
            by rw [hu]; exact hrec, by rw [hu]; exact hcount, hempty⟩
        rw [exec_transmissionStart_of hgo, State.startNext_fuel n _ u (by omega) (Nat.le_refl _)]
    · rw [exec_transmissionStart_of hmay, hn]
      unfold State.startNext
      rw [hfirst]
      dsimp only
      rw [hbuild]
    · obtain ⟨k, hk⟩ : ∃ k, k = s.link.launch (s.flightFor r p) := ⟨_, rfl⟩
      obtain ⟨u, hu⟩ : ∃ u : State, u = { s with
          queue := { s.queue with requests := markInFlight r.key s.queue.requests }, link := k } := ⟨_, rfl⟩
      have hlaunch : s.launch r p = u.startOwner r.key := by rw [hu, hk, State.launch_eq]
      obtain ⟨hother, hoffer, hframe⟩ := u.startOwner_spec r.key
      have hlink : (u.startOwner r.key).link = k := by rw [hframe, hu]
      have hrequests : (u.startOwner r.key).queue.requests = markInFlight r.key s.queue.requests := by rw [hframe, hu]
      obtain ⟨hfl, hdriving, hreleased, htimer, hhealth, hst⟩ := s.link.launch_spec (s.flightFor r p)
      rw [← hk] at hfl hdriving hreleased htimer hhealth hst
      rw [hlaunch, hlink, hrequests]
      refine ⟨hfl, hdriving, hreleased, htimer, hhealth, hst.trans hstate, rfl, fun h => ?_, fun tag h => ?_, ?_⟩
      · rw [hother h, hu]
      · rw [hoffer tag h, hu]
        rfl
      · rw [hframe, hu]

end Sys2Proof.Machine
end

section
/-! Transmissions that end without their frame (sections 7.4, 7.5 and 8.3): a lost arbitration, a readback failure, a dominant
timeout. -/

namespace Sys2Proof.Machine

open Sys2Proof.Config

/-! ## The queue and the link after a frame has been lost (R125 to R131, R140) -/

/-- A lost or failed frame is told to the queue and to an OFFER's entry alone (R59, R140, R141). -/
theorem State.flightFailed_spec (s : State) (f : Flight) :
    (s.flightFailed f).queue.requests = (if f.detached = true then s.queue.requests else s.queue.requests.map (fun q =>
      if q.key = f.key then { q with inFlight := false, renewal := none } else q)) ∧
    (f.detached = true ∨ (∀ tag, f.key ≠ .offer tag) → (s.flightFailed f).matcher = s.matcher) ∧
    (∀ tag, f.detached = false → f.key = .offer tag → (s.flightFailed f).matcher = { s.matcher with
      pendingOut := s.matcher.pendingOut.map (fun e =>
        if e.tag = tag ∧ e.status = .sending then { e with status := .queued } else e) }) ∧
    s.flightFailed f = { s with
      matcher := (s.flightFailed f).matcher
      queue := { s.queue with requests := (s.flightFailed f).queue.requests } } := by
  unfold State.flightFailed
  by_cases hd : f.detached = true
  · rw [if_pos hd, if_pos hd]
    exact ⟨rfl, fun _ => rfl, fun tag hf => absurd (hd.symm.trans hf) (by decide), rfl⟩
  · rw [if_neg hd, if_neg hd]
    dsimp only
    split
    · next tag hk =>
      refine ⟨rfl, fun h => ?_, fun tag' _ hk' => ?_, rfl⟩
      · exact absurd hk (h.resolve_left hd tag)
      · obtain rfl : tag = tag' := by rw [hk] at hk'; cases hk'; rfl
        rfl
    · next hk => exact ⟨rfl, fun _ => rfl, fun tag _ hk' => absurd hk' (hk tag), rfl⟩

/-- A failure of an ACTIVE link adds 4 to the health counter, and at 32 leads to QUARANTINE for 30 s (R130, R131). -/
theorem Link.countFailure_spec {k : Link} (hk : k.state = .active) :
    k.countFailure.health = k.health + 4 ∧
    (k.health + 4 < 32 → k.countFailure.state = .active ∧ k.countFailure.quarantineTimer = k.quarantineTimer) ∧
    (32 ≤ k.health + 4 → k.countFailure.state = .quarantine ∧ k.countFailure.quarantineTimer = .running 30000000) ∧
    k.countFailure = { k with
      health := k.countFailure.health, state := k.countFailure.state
      quarantineTimer := k.countFailure.quarantineTimer } := by
  unfold Link.countFailure
  dsimp only
  split
  · next h => exact ⟨rfl, fun hlt => by omega, fun _ => ⟨rfl, rfl⟩, rfl⟩
  · next h => exact ⟨rfl, fun _ => ⟨hk, rfl⟩, fun hge => absurd ⟨hge, hk⟩ h, rfl⟩

theorem Link.readOn_readsOn {k l : Link} {chars : List Byte} {char bit : Nat} {read : Bool}
    (hr : l.receiver = (k.readOn chars char bit read).receiver) (hbuf : l.buffer = (k.readOn chars char bit read).buffer)
    (hbits : l.bits = (k.readOn chars char bit read).bits) : ReadsOn l chars char bit read := by
  unfold Link.readOn at hr hbuf hbits
  dsimp only at hr hbuf hbits
  refine ⟨hr, hbuf, by rw [hbits]; simp, fun j hj => ?_, ?_⟩
  · rw [hbits, List.getElem?_append_left (by simpa using hj)]
    simp [hj]
  · rw [hbits, List.getElem?_append_right (by simp)]
    simp

/-- The link after a readback failure of a frame that the driver gave, and where the driver was kept released (R121, R126,
R127). -/
theorem Link.readbackFailed_spec {k : Link} (hk : k.state = .active) (chars : List Byte) (char bit : Nat) :
    (k.readbackFailed chars char bit).driver = .released ∧ (k.readbackFailed chars char bit).flight = none ∧
    (k.readbackFailed chars char bit).dominantTimer = 0 ∧ (k.readbackFailed chars char bit).spacing = k.spacing ∧
    (k.readbackFailed chars char bit).health = k.health + 4 ∧
    (k.driverInhibited = false →
      (bit = 0 ∨ bit = 9 → (k.readbackFailed chars char bit).receiver = .waitingForIdle ∧
        (k.readbackFailed chars char bit).buffer = [] ∧ (k.readbackFailed chars char bit).bits = []) ∧
      (bit ≠ 0 → bit ≠ 9 →
        ReadsOn (k.readbackFailed chars char bit) chars char bit (!bitAt chars (10 * char + bit)))) ∧
    (k.health + 4 < 32 → (k.readbackFailed chars char bit).state = .active ∧
      (k.readbackFailed chars char bit).quarantineTimer = k.quarantineTimer) ∧
    (32 ≤ k.health + 4 → (k.readbackFailed chars char bit).state = .quarantine ∧
      (k.readbackFailed chars char bit).quarantineTimer = .running 30000000) := by
  obtain ⟨reading, hreading⟩ : ∃ reading, reading =
      (if (k.driverInhibited && !sentRecessiveBy chars (10 * char + bit)) = true then k
        else if (decide (bit = 0) || decide (bit = 9)) = true then k.awaitIdle
        else k.readOn chars char bit (!bitAt chars (10 * char + bit))) := ⟨_, rfl⟩
  obtain ⟨silent, hsilent⟩ : ∃ silent, silent = (k.driverInhibited && !sentRecessiveBy chars (10 * char + bit)) :=
    ⟨_, rfl⟩
  obtain ⟨count, hcount⟩ : ∃ count : Nat, count = (if silent = true then k.recessiveCount
      else if bit = 0 ∨ bitAt chars (10 * char + bit) = true then 0
      else min 15 (recessiveBefore chars (10 * char + bit))) := ⟨_, rfl⟩
  have hfailed : k.readbackFailed chars char bit =
      Link.countFailure { reading.released with driverInhibited := silent, recessiveCount := count } := by
    subst hcount hsilent hreading
    rfl
  have hsame : reading.state = k.state ∧ reading.health = k.health ∧ reading.spacing = k.spacing ∧
      reading.quarantineTimer = k.quarantineTimer := by
    rw [hreading]
    split
    · exact ⟨rfl, rfl, rfl, rfl⟩
    · split <;> exact ⟨rfl, rfl, rfl, rfl⟩
  obtain ⟨hstate, hhealth, hspacing, htimer⟩ := hsame
  obtain ⟨hup, hlow, hhigh, hframe⟩ := Link.countFailure_spec
    (k := { reading.released with driverInhibited := silent, recessiveCount := count }) (hstate.trans hk)
  have hreceiver : (k.readbackFailed chars char bit).receiver = reading.receiver := by rw [hfailed, hframe]; rfl
  have hbuffer : (k.readbackFailed chars char bit).buffer = reading.buffer := by rw [hfailed, hframe]; rfl
  have hbits : (k.readbackFailed chars char bit).bits = reading.bits := by rw [hfailed, hframe]; rfl
  refine ⟨by rw [hfailed, hframe]; rfl, by rw [hfailed, hframe]; rfl, by rw [hfailed, hframe]; rfl,
    by rw [hfailed, hframe]; exact hspacing, ?_, fun hin => ⟨fun hbit => ?_, fun h0 h9 => ?_⟩, fun h => ?_, fun h => ?_⟩
  · rw [hfailed, hup]
    exact congrArg (· + 4) hhealth
  · have hawait : reading = k.awaitIdle := by
      rw [hreading, if_neg (by rw [hin]; simp), if_pos (by simpa using hbit)]
    rw [hreceiver, hbuffer, hbits, hawait]
    exact ⟨rfl, rfl, rfl⟩
  · have hread : reading = k.readOn chars char bit (!bitAt chars (10 * char + bit)) := by
      rw [hreading, if_neg (by rw [hin]; simp), if_neg (by simp [h0, h9])]
    exact Link.readOn_readsOn (hreceiver.trans (congrArg Link.receiver hread)) (hbuffer.trans (congrArg Link.buffer hread))
      (hbits.trans (congrArg Link.bits hread))
  · rw [hfailed, ← htimer]
    exact hlow (by rw [← hhealth] at h; exact h)
  · rw [hfailed]
    exact hhigh (by rw [← hhealth] at h; exact h)

/-- The link at a dominant timeout, its failure still to be counted (R121, R127). -/
def Link.timedOut (k : Link) : Link :=
  { k.released.awaitIdle with
    driverInhibited := true
    recessiveCount := 0 }

/-! ## Where they fall (R125, R126, log 2) -/

theorem Flight.atBit_iff (f : Flight) (rate : BitRate) (char bit : Nat) : f.atBit rate char bit = true ↔
    f.position ≤ 10 * char + bit ∧ 10 * char + bit < f.position + (if rate = .k50 then 1 else 2) := by
  unfold Flight.atBit
  rw [Bool.and_eq_true, decide_eq_true_eq, decide_eq_true_eq]
  cases rate <;> rfl

theorem losesArbitrationAt_iff (chars : List Byte) (char bit : Nat) : losesArbitrationAt chars char bit = true ↔
    char < 2 ∧ 1 ≤ bit ∧ bit ≤ 8 ∧ bitAt chars (10 * char + bit) = true := by
  simp [losesArbitrationAt, and_assoc]

theorem failsReadbackAt_iff (chars : List Byte) (char bit : Nat) : failsReadbackAt chars char bit = true ↔
    char < chars.length ∧ bit < 10 ∧
      ¬ (char < 2 ∧ 1 ≤ bit ∧ bit ≤ 8 ∧ bitAt chars (10 * char + bit) = true) := by
  rw [← losesArbitrationAt_iff]
  simp [failsReadbackAt, and_assoc]

section

variable {s : State} {f : Flight} {char bit : Nat} (hf : s.link.flight = some f)

include hf

/-- A lost arbitration: the driver is released, and the receiver goes on with the dominant bit (R125). -/
theorem exec_lostArbitration (h : losesArbitrationAt (frameChars f.frame) char bit = true)
    (hat : f.atBit s.running.bitRate char bit = true) : exec (.lostArbitration char bit) s = .next (State.flightFailed
      { s with link := { s.link.released.readOn (frameChars f.frame) char bit false with
        driverInhibited := false, recessiveCount := 0 } } f) := by
  refine congrArg Host.Outcome.next ?_
  dsimp only
  rw [hf]
  exact if_pos (by rw [h, hat]; rfl)

theorem exec_readbackFailure (h : failsReadbackAt (frameChars f.frame) char bit = true)
    (hat : f.atBit s.running.bitRate char bit = true) : exec (.readbackFailure char bit) s = .next (State.flightFailed
      { s with link := s.link.readbackFailed (frameChars f.frame) char bit } f) := by
  refine congrArg Host.Outcome.next ?_
  dsimp only
  rw [hf]
  exact if_pos (by rw [h, hat]; rfl)

theorem exec_lostArbitration_not (hat : f.atBit s.running.bitRate char bit = false) :
    exec (.lostArbitration char bit) s = .next s := by
  refine congrArg Host.Outcome.next ?_
  dsimp only
  rw [hf]
  exact if_neg (by rw [hat]; simp)

theorem exec_readbackFailure_not (hat : f.atBit s.running.bitRate char bit = false) :
    exec (.readbackFailure char bit) s = .next s := by
  refine congrArg Host.Outcome.next ?_
  dsimp only
  rw [hf]
  exact if_neg (by rw [hat]; simp)

theorem exec_dominantTimeout (h : s.link.driver = .driving) (hpos : f.position ≠ 10 * (frameChars f.frame).length) :
    exec .dominantTimeout s = .next (State.flightFailed
      { s with link := s.link.timedOut.countFailure } f) := by
  refine congrArg Host.Outcome.next ?_
  dsimp only
  rw [hf]
  exact if_pos ⟨h, decide_eq_false hpos⟩

theorem exec_dominantTimeout_not (h : s.link.driver = .released ∨ f.position = 10 * (frameChars f.frame).length) :
    exec .dominantTimeout s = .next s := by
  refine congrArg Host.Outcome.next ?_
  dsimp only
  rw [hf]
  refine if_neg fun hgo => ?_
  rcases h with h | h
  · exact absurd (h.symm.trans hgo.1) (by decide)
  · exact absurd ((decide_eq_true h).symm.trans hgo.2) (by decide)

end

/-- Settles O47. -/
theorem failedTransmissionsKeepTheRequest : Obligations.FailedTransmissionsKeepTheRequest := by
  intro s f char bit hf hactive back hback
  have hends : ∀ k : Link, k.driver = .released → k.flight = none → k.dominantTimer = 0 → k.spacing = s.link.spacing →
      back (State.flightFailed { s with link := k } f) ∧ (State.flightFailed { s with link := k } f).link = k := by
    intro k hdriver hflight htimer hspacing
    obtain ⟨hrequests, hleft, hoffer, hframe⟩ := State.flightFailed_spec { s with link := k } f
    have hlink : (State.flightFailed { s with link := k } f).link = k := by rw [hframe]
    rw [hback]
    refine ⟨⟨by rw [hlink]; exact hdriver, by rw [hlink]; exact hflight, by rw [hlink]; exact htimer,
      by rw [hlink]; exact hspacing, hrequests, hleft, hoffer, ?_⟩, hlink⟩
    rw [hlink]
    exact hframe
  refine ⟨fun hout => ?_, fun hlo hhi hchar h1 h8 hbit => ?_, fun hlo hhi hchar hbit hnot => ?_,
    fun h => exec_dominantTimeout_not hf h, fun hdriving hpos => ?_⟩
  · have hat : f.atBit s.running.bitRate char bit = false :=
      Bool.eq_false_iff.mpr fun h => by have := (f.atBit_iff _ char bit).mp h; omega
    exact ⟨exec_lostArbitration_not hf hat, exec_readbackFailure_not hf hat⟩
  · refine ⟨_, exec_lostArbitration hf ((losesArbitrationAt_iff _ _ _).mpr ⟨hchar, h1, h8, hbit⟩)
      ((f.atBit_iff _ _ _).mpr ⟨hlo, hhi⟩), ?_⟩
    obtain ⟨hb, hlink⟩ := hends { s.link.released.readOn (frameChars f.frame) char bit false with
        driverInhibited := false, recessiveCount := 0 } rfl rfl rfl rfl
    refine ⟨hb, ?_⟩
    rw [hlink]
    exact ⟨hactive, rfl, Link.readOn_readsOn (k := s.link) rfl rfl rfl, rfl⟩
  · refine ⟨_, exec_readbackFailure hf ((failsReadbackAt_iff _ _ _).mpr ⟨hchar, hbit, hnot⟩)
      ((f.atBit_iff _ _ _).mpr ⟨hlo, hhi⟩), ?_⟩
    obtain ⟨hdriver, hflight, htimer, hspacing, hhealth, hreads, hlow, hhigh⟩ :=
      Link.readbackFailed_spec hactive (frameChars f.frame) char bit
    obtain ⟨hb, hlink⟩ := hends _ hdriver hflight htimer hspacing
    refine ⟨hb, ?_⟩
    rw [hlink]
    exact ⟨hhealth, hreads, hlow, hhigh⟩
  · refine ⟨_, exec_dominantTimeout hf hdriving hpos, ?_⟩
    obtain ⟨hhealth, hlow, hhigh, hframe⟩ := Link.countFailure_spec (k := s.link.timedOut) hactive
    obtain ⟨hb, hlink⟩ := hends s.link.timedOut.countFailure (by rw [hframe]; rfl) (by rw [hframe]; rfl)
      (by rw [hframe]; rfl) (by rw [hframe]; rfl)
    refine ⟨hb, ?_⟩
    rw [hlink]
    exact ⟨hhealth, by rw [hframe]; rfl, hlow, hhigh⟩

end Sys2Proof.Machine
end

section
/-! The end of a transmission (sections 7.4 and 8.3): the request leaves or waits again, and its owner takes the end. -/

namespace Sys2Proof.Machine

open Sys2Proof.Config

/-! ## What the end of a frame leaves unchanged (R143) -/

theorem State.setNotice_lane_of_ne (s : State) {l m : Lane} (n : LaneNotice) (h : m ≠ l) : (s.setNotice l n).lane m = s.lane m :=
  State.setLane_lane_of_ne s _ h

theorem State.alertSent_frame (s : State) (i : Slot) (status : AlertStatus) : s.alertSent i status = { s with
    slots := (s.alertSent i status).slots, queue := (s.alertSent i status).queue } := by
  unfold State.alertSent
  dsimp only
  split <;> rfl

theorem State.alertSent_slot_of_ne (s : State) {i j : Slot} (status : AlertStatus) (h : j ≠ i) :
    (s.alertSent i status).slot j = s.slot j := by
  unfold State.alertSent
  dsimp only
  split <;> exact State.setSlot_slot_of_ne s _ h

theorem State.alertSent_restart (s : State) (i : Slot) (status : AlertStatus) :
    (s.alertSent i status).queue.restartFlag = s.queue.restartFlag ∧
      (s.alertSent i status).queue.presenceTimer = s.queue.presenceTimer := by
  unfold State.alertSent
  dsimp only
  split <;> exact ⟨rfl, rfl⟩

/-- The slot's items and the request at the end of an ALERT of a status (R103, R109). -/
theorem State.alertSent_spec (s : State) (i : Slot) (status : AlertStatus) :
    (s.alertSent i status).slot i = { s.slot i with
      lastSent := lastSentOf status
      repeatTimer := if status = .raised ∧ (s.slot i).alert = .raised then .running 60000000
        else (s.slot i).repeatTimer } ∧
    (s.alertSent i status).queue.requests = (if (s.slot i).alert = .normal ∧ status ≠ .cleared then
      placeIn s.now (.alert i) none s.queue.requests else s.queue.requests) := by
  unfold State.alertSent
  dsimp only
  split
  · exact ⟨State.setSlot_slot_self s i _, rfl⟩
  · exact ⟨State.setSlot_slot_self s i _, rfl⟩

/-- From one state to another nothing has changed but what a frame's own kind concerns (R143). -/
structure OwnKindChanges (f : Flight) (s t : State) : Prop where
  frontEnd : f.key ≠ .shock → t.frontEnd = s.frontEnd
  matcher : (∀ tag, f.key ≠ .offer tag) → (∀ station tag, f.key ≠ .claim station tag) → t.matcher = s.matcher
  detached : f.detached = true → t.matcher = s.matcher
  lane : ∀ l, f.key ≠ .notice l → t.lane l = s.lane l
  slot : ∀ i, f.key ≠ .stock i → f.key ≠ .alert i → t.slot i = s.slot i
  requests : (∀ i, f.key ≠ .alert i) → t.queue.requests = s.queue.requests
  restartFlag : f.key ≠ .presence → t.queue.restartFlag = s.queue.restartFlag
  presenceTimer : t.queue.presenceTimer = s.queue.presenceTimer
  others : t = { s with
    queue := t.queue, frontEnd := t.frontEnd, lanes := t.lanes, slots := t.slots, matcher := t.matcher }

theorem OwnKindChanges.refl (f : Flight) (s : State) : OwnKindChanges f s s :=
  ⟨fun _ => rfl, fun _ _ => rfl, fun _ => rfl, fun _ _ => rfl, fun _ _ _ => rfl, fun _ => rfl, fun _ => rfl, rfl, rfl⟩

theorem State.alertSent_ownKind {f : Flight} {i : Slot} (s : State) (hk : f.key = .alert i) (status : AlertStatus) :
    OwnKindChanges f s (s.alertSent i status) := by
  have hframe := s.alertSent_frame i status
  obtain ⟨hflag, htimer⟩ := s.alertSent_restart i status
  have hfront : (s.alertSent i status).frontEnd = s.frontEnd := by rw [hframe]
  have hmatcher : (s.alertSent i status).matcher = s.matcher := by rw [hframe]
  have hlanes : (s.alertSent i status).lanes = s.lanes := by rw [hframe]
  refine ⟨fun _ => hfront, fun _ _ => hmatcher, fun _ => hmatcher, fun l _ => congrArg (fun v => v[l.idx]) hlanes,
    fun j _ hj => s.alertSent_slot_of_ne status fun h => hj (h ▸ hk), fun h => absurd hk (h i), fun _ => hflag, htimer, ?_⟩
  rw [hfront, hmatcher, hlanes]
  exact hframe

theorem State.tellOwner_ownKind (s : State) (f : Flight) : OwnKindChanges f s (s.tellOwner f) := by
  have hsame := OwnKindChanges.refl f s
  unfold State.tellOwner
  split
  · next hk => exact { hsame with frontEnd := fun h => absurd hk h, others := rfl }
  · next station tag hk =>
    split
    · exact hsame
    · next hd =>
      exact { hsame with
        matcher := fun _ h => absurd hk (h station tag), detached := fun h => absurd h hd, others := rfl }
  · next tag hk =>
    split
    · exact hsame
    · next hd =>
      exact { hsame with matcher := fun h _ => absurd hk (h tag), detached := fun h => absurd h hd, others := rfl }
  · next i _ _ _ _ _ hk _ =>
    split
    · next st _ => exact s.alertSent_ownKind hk st
    · exact hsame
  · exact hsame
  · next l hk =>
    split
    · exact { hsame with lane := fun m hm => s.setNotice_lane_of_ne _ fun h => hm (h ▸ hk), others := rfl }
    · exact hsame
  · next i hk =>
    exact { hsame with slot := fun j hj _ => State.setSlot_slot_of_ne s _ fun h => hj (h ▸ hk), others := rfl }
  · next hk _ =>
    split
    · exact { hsame with restartFlag := fun h => absurd hk h, others := rfl }
    · exact hsame
  · exact hsame

/-! ## What the owner takes (R59, R65, R103, R109, R143) -/

section

variable (s : State) {f : Flight}

theorem State.tellOwner_shock (hk : f.key = .shock) :
    s.tellOwner f = { s with frontEnd := { s.frontEnd with spacingTimer := .running 1000000 } } := by
  unfold State.tellOwner
  rw [hk]
  rfl

theorem State.tellOwner_claim {station : Nat} {tag : Byte} (hk : f.key = .claim station tag) (hd : f.detached = false) :
    s.tellOwner f = s.claimSent station tag := by
  unfold State.tellOwner
  rw [hk]
  exact if_neg (by rw [hd]; decide)

theorem State.tellOwner_offer {tag : Byte} (hk : f.key = .offer tag) (hd : f.detached = false) :
    s.tellOwner f = s.moveOffer tag .sending .sent := by
  unfold State.tellOwner
  rw [hk]
  exact if_neg (by rw [hd]; decide)

theorem State.tellOwner_alert {i : Slot} {a c h rp} {st : Byte} {status : AlertStatus} (hk : f.key = .alert i)
    (hp : f.frame.payload = .alert a st c h rp) (hst : alertStatusOf st = some status) :
    s.tellOwner f = s.alertSent i status := by
  unfold State.tellOwner
  rw [hk, hp]
  dsimp only
  rw [hst]

/-- The end of a NOTICE starts the notice timer of a lane with a flag set (R143). -/
theorem State.tellOwner_notice {l : Lane} (hk : f.key = .notice l) : (s.tellOwner f).lane l = { s.lane l with
    notice := { (s.lane l).notice with
      timer := if ((s.lane l).notice.audit || (s.lane l).notice.foreign || (s.lane l).notice.fault) = true then
        .running 60000000 else (s.lane l).notice.timer } } := by
  unfold State.tellOwner
  rw [hk]
  dsimp only
  split
  · next h =>
    rw [show ((s.lane l).notice.audit || (s.lane l).notice.foreign || (s.lane l).notice.fault) = true from h, if_pos rfl]
    exact State.setLane_lane_self s l _
  · next h =>
    rw [if_neg (show ¬ ((s.lane l).notice.audit || (s.lane l).notice.foreign || (s.lane l).notice.fault) = true from h)]

theorem State.tellOwner_stock {i : Slot} (hk : f.key = .stock i) :
    s.tellOwner f = s.setSlot i { s.slot i with refreshTimer := .running 120000000 } := by
  unfold State.tellOwner
  rw [hk]
  rfl

/-- The end of a PRESENCE that carried the restart flag clears it (R143, R146). -/
theorem State.tellOwner_presence {b h : Byte} (hk : f.key = .presence) (hp : f.frame.payload = .presence b h) :
    (s.tellOwner f).queue.restartFlag = (s.queue.restartFlag && !b.getLsbD 7) := by
  unfold State.tellOwner
  rw [hk, hp]
  dsimp only
  split
  · next hb => rw [show b.getLsbD 7 = true from hb, Bool.not_true, Bool.and_false]
  · next hb => rw [show b.getLsbD 7 = false from Bool.eq_false_iff.mpr hb, Bool.not_false, Bool.and_true]

end

/-- The statuses of an ALERT frame, and the last-sent status that each stands for (R109, section 12.1). -/
theorem alertStatusOf_known {st : Byte} (h : st = 1 ∨ st = 2 ∨ st = 3) : ∃ status, alertStatusOf st = some status ∧
    lastSentOf status = (if st = 1 then .raised else if st = 2 then .none else .muted) ∧
    (status = .raised ↔ st = 1) ∧ (status = .cleared ↔ st = 2) := by
  rcases h with rfl | rfl | rfl
  · exact ⟨.raised, rfl, rfl, by decide, by decide⟩
  · exact ⟨.cleared, rfl, rfl, by decide, by decide⟩
  · exact ⟨.muted, rfl, rfl, by decide, by decide⟩

/-! ## The request (R140) -/

theorem requestSent_eq (key : RequestKey) (q : List Request) : requestSent key q = q.filterMap (fun r =>
    if r.key = key then
      match r.renewal with
      | some at_ => some { r with age := at_, inFlight := false, renewal := none }
      | none => none
    else some r) := by
  unfold requestSent
  congr 1
  funext r
  cases r.renewal <;> rfl

theorem State.transmitted_queue (s : State) (f : Flight) :
    (s.transmitted f).queue.requests =
      (if f.detached = true then s.queue.requests else requestSent f.key s.queue.requests) ∧
    (s.transmitted f).queue.restartFlag = s.queue.restartFlag ∧
    (s.transmitted f).queue.presenceTimer = s.queue.presenceTimer := by
  unfold State.transmitted
  dsimp only
  split <;> exact ⟨rfl, rfl, rfl⟩

section

variable {s : State} {f : Flight} (hf : s.link.flight = some f)

include hf

theorem exec_transmissionEnd (hpos : f.position = 10 * (frameChars f.frame).length) :
    exec .transmissionEnd s = .next ((s.transmitted f).tellOwner f) := by
  refine congrArg Host.Outcome.next ?_
  dsimp only
  rw [hf]
  exact if_pos (decide_eq_true hpos)

theorem exec_transmissionEnd_not (hpos : f.position ≠ 10 * (frameChars f.frame).length) :
    exec .transmissionEnd s = .next s := by
  refine congrArg Host.Outcome.next ?_
  dsimp only
  rw [hf]
  exact if_neg (by simpa [Flight.whole] using hpos)

end

/-- Settles O48. -/
theorem transmissionEndCompletesTheRequest : Obligations.TransmissionEndCompletesTheRequest := by
  intro s f hf
  obtain ⟨hrequests, hflag, htimer⟩ := s.transmitted_queue f
  refine ⟨fun hpos => exec_transmissionEnd_not hf hpos, fun hpos =>
    ⟨_, (s.transmitted f).queue.requests, exec_transmissionEnd hf hpos, ?_, ?_⟩⟩
  · rw [hrequests]
    split
    · rfl
    · exact requestSent_eq f.key s.queue.requests
  have hown := (s.transmitted f).tellOwner_ownKind f
  obtain ⟨t, ht⟩ : ∃ t, t = (s.transmitted f).tellOwner f := ⟨_, rfl⟩
  rw [← ht] at hown ⊢
  have hlink : t.link = s.link.transmitted f := by rw [hown.others]; rfl
  refine ⟨by rw [hlink]; rfl, by rw [hlink]; rfl, by rw [hlink]; rfl, by rw [hlink]; rfl, by rw [hlink]; rfl,
    by rw [hlink]; rfl, hown.detached, hown.requests, fun hk => ?_, hown.frontEnd, fun tag hk hd => ?_,
    fun station tag hk hd => ?_, fun i a st c h rp hk hp hst => ?_, fun l hk => ?_, hown.lane, fun i hk => ?_, hown.slot,
    fun i hk j hj => ?_, hown.matcher, fun hk => (hown.restartFlag hk).trans hflag, fun b h hk hp => ?_,
    hown.presenceTimer.trans htimer, ?_⟩
  · rw [ht, State.tellOwner_shock _ hk]
    rfl
  · rw [ht, State.tellOwner_offer _ hk hd]
    rfl
  · rw [ht, State.tellOwner_claim _ hk hd]
    rfl
  · obtain ⟨status, hstatus, hlast, hraised, hcleared⟩ := alertStatusOf_known hst
    obtain ⟨hslot, hqueue⟩ := (s.transmitted f).alertSent_spec i status
    rw [ht, State.tellOwner_alert _ hk hp hstatus, hslot, hqueue, hlast]
    simp only [hraised, Ne, hcleared]
    exact ⟨rfl, rfl⟩
  · rw [ht, State.tellOwner_notice _ hk]
    rfl
  · rw [ht, State.tellOwner_stock _ hk]
    exact State.setSlot_slot_self _ i _
  · refine hown.slot j (fun h => hj ?_) fun h => hj ?_ <;> rcases hk with hk | hk <;> cases hk.symm.trans h <;> rfl
  · rw [ht, State.tellOwner_presence _ hk hp, hflag]
  · rw [hlink]
    exact hown.others

end Sys2Proof.Machine
end

section
/-! The layouts of the read replies (section 12.3): a reply as a table of the places, widths and numbers of its items. -/

namespace Sys2Proof.Machine

open Sys2Proof.Config

/-! ## Tables of items (R172) -/

/-- The bytes of a field of a width, most significant first (R172). -/
def fieldBytes (width value : Nat) : List Byte :=
  (List.range width).map fun k => BitVec.ofNat 8 (value / 256 ^ (width - 1 - k))

/-- The bytes of a table of items, each a place, a width and a number. -/
def tableBytes (items : List (Nat × Nat × Nat)) : List Byte := items.flatMap fun x => fieldBytes x.2.1 x.2.2

/-- The items of a table stand one after the other from a place on. -/
def Placed : Nat → List (Nat × Nat × Nat) → Prop
  | _, [] => True
  | place, x :: rest => x.1 = place ∧ Placed (place + x.2.1) rest

theorem fieldBytes_length (width value : Nat) : (fieldBytes width value).length = width := by
  simp [fieldBytes]

theorem fieldBytes_getElem? {width k : Nat} (value : Nat) (h : k < width) :
    (fieldBytes width value)[k]? = some (BitVec.ofNat 8 (value / 256 ^ (width - 1 - k))) := by
  simp [fieldBytes, h]

theorem tableBytes_length (items : List (Nat × Nat × Nat)) :
    (tableBytes items).length = (items.map fun x => x.2.1).sum := by
  simp [tableBytes, fieldBytes_length]

/-- Each item of a table whose items stand one after the other is at its place (R172). -/
theorem carriesAt_table_after {items : List (Nat × Nat × Nat)} (before : List Byte) (h : Placed before.length items) :
    ∀ x ∈ items, CarriesAt (before ++ tableBytes items) x.1 x.2.1 x.2.2 := by
  induction items generalizing before with
  | nil => simp
  | cons y rest ih =>
    obtain ⟨hy, hrest⟩ := h
    have hcons : before ++ tableBytes (y :: rest) = (before ++ fieldBytes y.2.1 y.2.2) ++ tableBytes rest := by
      rw [List.append_assoc]
      rfl
    intro x hx
    rw [hcons]
    rcases List.mem_cons.mp hx with rfl | hx
    · intro k hk
      rw [hy, List.append_assoc, List.getElem?_append_right (Nat.le_add_right _ _), Nat.add_sub_cancel_left,
        List.getElem?_append_left (by rw [fieldBytes_length]; exact hk), fieldBytes_getElem? _ hk]
    · exact ih _ (by rw [List.length_append, fieldBytes_length]; exact hrest) x hx

theorem carriesAt_table {items : List (Nat × Nat × Nat)} {reply : List Byte} (hreply : reply = tableBytes items)
    (h : Placed 0 items) : ∀ x ∈ items, CarriesAt reply x.1 x.2.1 x.2.2 := by
  rw [hreply]
  exact carriesAt_table_after [] h

/-! ## The fields of a reply as fields of their widths (R172) -/

theorem u8_eq (n : Nat) : u8 n = fieldBytes 1 n := by
  simp [u8, fieldBytes]

theorem u16_eq (n : Nat) : u16 n = fieldBytes 2 n := by
  simp [u16, fieldBytes, List.range_succ]

theorem u24_eq (n : Nat) : u24 n = fieldBytes 3 n := by
  simp [u24, fieldBytes, List.range_succ]

theorem u32_eq (n : Nat) : u32 n = fieldBytes 4 n := by
  simp [u32, fieldBytes, List.range_succ]

theorem byte_eq (b : Byte) : [b] = fieldBytes 1 b.toNat := by
  simp [fieldBytes]

/-! ## The replies -/

theorem State.statusReply_eq (s : State) : s.statusReply = tableBytes
    [(0, 1, nodeCode s.startUp.node), (1, 1, causeCode s.startUp.cause), (2, 1, s.config.station),
      (3, 1, resultNumber s.port.result), (4, 1, s.port.detail), (5, 1, operationCode s.port.operation),
      (6, 1, (s.port.capture.map fun c => c.lane.number).getD 0), (7, 1, (s.port.capture.map Capture.samples).getD 0),
      (8, 1, if s.frontEnd.mode = .slow then 1 else 0),
      (9, 1, flagBit 0 s.frontEnd.supplyHold + flagBit 1 (decide (s.frontEnd.excitation = .bad))),
      (10, 1, s.matcher.pendingOut.length), (11, 1, s.matcher.heard.length), (12, 1, s.matcher.tagCounter.toNat),
      (13, 1, s.carrierEntries.length), (14, 1, settlingInCode s.settlingIn),
      (15, 1, wholeSeconds s.settlingIn.remaining), (16, 1, linkCode s.link.state), (17, 1, s.link.health),
      (18, 1, wholeSeconds s.link.quarantineTimer.remaining),
      (19, 1, flagBit 0 s.link.addressConflict + flagBit 1 (decide (s.config.bitRate = .k100))),
      (20, 1, s.queue.requests.length), (21, 1, claimsHeld s.queue.requests),
      (22, 1, flagBit 0 s.queue.restartFlag), (23, 1, flagBit 0 s.startUp.markerValid)] := by
  unfold State.statusReply
  rw [byte_eq s.matcher.tagCounter]
  simp only [loneFlag, u8_eq, tableBytes, List.flatMap_cons, List.flatMap_nil, List.append_assoc, List.append_nil]

/-- The foreign record's items; those of an absent one read 0 (R173). -/
theorem foreignBytes_eq (record : Option ForeignRecord) : foreignBytes record =
    fieldBytes 1 (flagBit 0 record.isSome) ++ fieldBytes 3 ((record.map ForeignRecord.article).getD 0) ++
    fieldBytes 3 ((record.map fun r => r.grams.toNat).getD 0) ++ fieldBytes 1 ((record.map ForeignRecord.origin).getD 0) ++
    fieldBytes 1 ((record.map fun r => r.tag.toNat).getD 0) := by
  cases record with
  | none => simp only [foreignBytes, loneFlag, u8_eq, u24_eq, Option.isSome_none, Option.map_none, Option.getD_none]
  | some r =>
    simp only [foreignBytes, loneFlag, u8_eq, u24_eq, byte_eq, Option.isSome_some, Option.map_some, Option.getD_some]

/-- The items of READ LANE from the lane's record, the lane's unit and its last report (section 12.3). -/
theorem State.laneReply_eq (s : State) (l : Lane) {c : LaneRecord} {u : LaneUnit} {v : SettleReport}
    (hc : c = laneOf s.config l) (hu : u = s.lane l) (hv : v = u.counting.report) : s.laneReply l = tableBytes
      [(0, 1, flagBit 7 c.enabled + c.slot.val), (1, 2, c.unitWeight), (3, 1, c.allowance), (4, 2, c.baseTol),
        (6, 2, c.motion), (8, 2, c.band), (10, 1, c.settleCount), (11, 3, (BitVec.ofInt 24 c.zeroCode).toNat),
        (14, 2, if c.spanCaptured = true then c.span else 0), (16, 3, (BitVec.ofInt 24 u.lastSample.raw).toNat),
        (19, 1, sampleClassCode u.lastSample.cls), (20, 3, (BitVec.ofInt 24 (u.lastSample.grams.getD 0)).toNat),
        (23, 1, laneStateCode u.settler.state), (24, 1, u.settler.window.length),
        (25, 2, if u.settler.window.length = 8 then min 65535 (spread u.settler.window).toNat else 0),
        (27, 3, (BitVec.ofInt 24 u.settler.reference).toNat), (30, 1, u.settler.settleCounter),
        (31, 1, flagBit 0 u.settler.known + flagBit 1 u.settler.supplyWait),
        (32, 2, wholeMs u.settler.holdTimer.remaining), (34, 1, u.settler.outOfRangeRun),
        (35, 1, u.settler.inRangeRun), (36, 2, u.counting.count), (38, 1, u.counting.doubt),
        (39, 1, flagBit 0 u.counting.audit), (40, 2, (BitVec.ofInt 16 u.counting.zeroOffset).toNat),
        (42, 2, u.counting.tallies.picks), (44, 2, u.counting.tallies.relocatedOut),
        (46, 2, u.counting.tallies.matchedIn), (48, 2, u.counting.tallies.restockIn),
        (50, 2, u.counting.tallies.foreignSeen), (52, 1, outcomeCode v.outcome),
        (53, 3, (BitVec.ofInt 24 (v.filtered.getD 0)).toNat), (56, 3, (BitVec.ofInt 24 (v.effective.getD 0)).toNat),
        (59, 2, v.n.getD 0), (61, 4, (BitVec.ofInt 32 (v.residual.getD 0)).toNat), (65, 3, v.tolerance.getD 0),
        (68, 2, (BitVec.ofInt 16 (v.movement.getD 0)).toNat),
        (70, 1, flagBit 0 (v.accepted.getD false) + flagBit 1 (v.zeroTracked.getD false)),
        (71, 1, flagBit 0 u.foreign.isSome), (72, 3, (u.foreign.map ForeignRecord.article).getD 0),
        (75, 3, (u.foreign.map fun r => r.grams.toNat).getD 0), (78, 1, (u.foreign.map ForeignRecord.origin).getD 0),
        (79, 1, (u.foreign.map fun r => r.tag.toNat).getD 0),
        (80, 1, flagBit 0 u.notice.audit + flagBit 1 u.notice.foreign + flagBit 2 u.notice.fault),
        (81, 1, wholeSeconds u.notice.timer.remaining), (82, 1, indicatorCode u.notice.indicator)] := by
  subst hc hv hu
  simp only [State.laneReply, laneRecordBytes, sampleBytes, settlerBytes, countingBytes, tallyBytes, reportBytes,
    foreignBytes_eq, loneFlag, LaneNotice.flags, i16, i24, i32, u8_eq, u16_eq, u24_eq, u32_eq, tableBytes,
    List.flatMap_cons, List.flatMap_nil, List.append_assoc, List.append_nil]

theorem State.slotReply_eq (s : State) (i : Slot) {c : SlotRecord} {u : SlotUnit} (hc : c = slotOf s.config i)
    (hu : u = s.slot i) : s.slotReply i = tableBytes
      [(0, 3, c.article), (3, 2, c.reorderPoint), (5, 2, c.hysteresis),
        (7, 1, slotClassCode (slotClass s.config i)), (8, 2, u.holding),
        (10, 1, flagBit 0 u.ready + flagBit 1 u.uncertain),
        (11, 3, if slotClass s.config i = .article then s.combined i else 0),
        (14, 1, wholeSeconds u.refreshTimer.remaining),
        (15, 1, (s.carrierEntries.filter fun e => decide (e.slot = i)).length), (16, 1, alertStateCode u.alert),
        (17, 1, lastSentCode u.lastSent), (18, 1, wholeSeconds u.takeoverTimer.remaining),
        (19, 1, wholeSeconds u.repeatTimer.remaining), (20, 2, wholeSeconds u.muteTimer.remaining)] := by
  subst hc hu
  simp only [State.slotReply, State.reportedCombined, State.entriesOf, u8_eq, u16_eq, u24_eq, tableBytes,
    List.flatMap_cons, List.flatMap_nil, List.append_assoc, List.append_nil]

/-- A used place of the carrier table (section 12.3). -/
theorem placeBytes_some (e : CarrierEntry) : placeBytes (some e) = tableBytes
    [(0, 1, e.station), (1, 1, e.slot.val), (2, 2, e.holding),
      (4, 1, flagBit 0 e.uncertain + flagBit 1 (decide (e.band = .stale))), (5, 2, e.age / 1000000)] := by
  simp only [placeBytes, u8_eq, u16_eq, tableBytes, List.flatMap_cons, List.flatMap_nil, List.append_assoc,
    List.append_nil]

theorem placeBytes_none : placeBytes none = fieldBytes 7 0 := rfl

theorem placeBytes_length (e : Option CarrierEntry) : (placeBytes e).length = 7 := by
  cases e <;> rfl

/-- Pieces of one length, one after the other: each begins at its number times the length. -/
theorem flatMap_getElem? {α β : Type} (f : α → List β) {n : Nat} (hf : ∀ a, (f a).length = n) {xs : List α} {p k : Nat}
    {a : α} (ha : xs[p]? = some a) (hk : k < n) : (xs.flatMap f)[n * p + k]? = (f a)[k]? := by
  induction xs generalizing p with
  | nil => simp at ha
  | cons x rest ih =>
    rw [List.flatMap_cons]
    cases p with
    | zero =>
      obtain rfl : x = a := by simpa using ha
      rw [Nat.mul_zero, Nat.zero_add, List.getElem?_append_left (by rw [hf]; exact hk)]
    | succ p =>
      have hrest : rest[p]? = some a := by simpa using ha
      rw [List.getElem?_append_right (by rw [hf, Nat.mul_succ]; omega), hf, ← ih hrest]
      congr 1
      rw [Nat.mul_succ]
      omega

/-- The bytes of a place of the carrier table stand in the reply at seven times its number (section 12.3). -/
theorem State.carriersReply_at (s : State) (p : Fin 32) {place width value : Nat} (hw : place + width ≤ 7)
    (h : CarriesAt (placeBytes s.carriers[p]) place width value) :
    CarriesAt s.carriersReply (7 * p.val + place) width value := by
  intro k hk
  have hp : s.carriers.toList[p.val]? = some s.carriers[p] := by simp
  rw [Nat.add_assoc]
  exact (flatMap_getElem? placeBytes placeBytes_length hp (by omega)).trans (h k hk)

theorem State.reply_lengths (s : State) : s.statusReply.length = 24 ∧ (∀ l, (s.laneReply l).length = 83) ∧
    (∀ i, (s.slotReply i).length = 22) ∧ s.carriersReply.length = 224 := by
  refine ⟨?_, fun l => ?_, fun i => ?_, ?_⟩
  · rw [s.statusReply_eq, tableBytes_length]
    simp only [List.map_cons, List.map_nil, List.sum_cons, List.sum_nil, Nat.reduceAdd]
  · rw [s.laneReply_eq l rfl rfl rfl, tableBytes_length]
    simp only [List.map_cons, List.map_nil, List.sum_cons, List.sum_nil, Nat.reduceAdd]
  · rw [s.slotReply_eq i rfl rfl, tableBytes_length]
    simp only [List.map_cons, List.map_nil, List.sum_cons, List.sum_nil, Nat.reduceAdd]
  · unfold State.carriersReply
    rw [List.length_flatMap]
    simp only [placeBytes_length, List.map_const', List.sum_replicate_nat, Vector.length_toList]

end Sys2Proof.Machine
end

section
/-! The reads of the commissioning port (section 9.8): when a reply is built, and what else it changes. -/

namespace Sys2Proof.Machine

open Sys2Proof.Config

/-! ## READ STATUS and READ CARRIERS (R163) -/

section

variable {s : State} (hsel : s.pins.cpselLow = true) (hnode : s.startUp.node ≠ .starting)
  (hcmd : s.port.command = .none ∨ s.port.command = .ignoring)

include hsel hnode hcmd

theorem exec_readStatus (hforms : Forms s 32) :
    exec .readStatus s = .next (State.beginReply .readStatus s.statusReply { s with port := s.port.shifted.idle }) := by
  rw [show s.statusReply = State.statusReply { s with port := s.port.shifted.idle } from rfl, ← State.atCommand_idle hcmd]
  exact congrArg Host.Outcome.next (State.takeCommand_body (c := .readStatus) _ hsel hnode hforms (.inr rfl) (.inr rfl))

theorem exec_readCarriers (hforms : Forms s 35) (hop : s.port.operation = .none) : exec .readCarriers s =
    .next ((State.beginReply .readCarriers s.carriersReply { s with port := s.port.shifted.idle }).setResult .ok 0) := by
  rw [show s.carriersReply = State.carriersReply { s with port := s.port.shifted.idle } from rfl, ← State.atCommand_idle hcmd]
  exact congrArg Host.Outcome.next (State.takeCommand_body (c := .readCarriers) _ hsel hnode hforms (.inl hop) (.inr rfl))

end

/-! ## The selectors of READ LANE and READ SLOT (R163) -/

section

variable (s : State) {b : Byte}

theorem State.paramReadLane_lane {l : Lane} (h : b.toNat = l.number) :
    s.paramReadLane b = State.setResult { s with port := { s.port with reply := some (s.laneReply l) } } .ok 0 := by
  unfold State.paramReadLane
  rw [laneOfNumber_eq h]

theorem State.paramReadLane_refused (h : ∀ l : Lane, b.toNat ≠ l.number) : s.paramReadLane b = s.refuse 0 := by
  unfold State.paramReadLane
  rw [laneOfNumber_none h]

theorem State.paramReadSlot_slot {i : Slot} (h : b.toNat = i.val) :
    s.paramReadSlot b = State.setResult { s with port := { s.port with reply := some (s.slotReply i) } } .ok 0 := by
  obtain ⟨n, hn⟩ := i
  dsimp only at h
  subst h
  exact dif_pos hn

theorem State.paramReadSlot_refused (h : 8 ≤ b.toNat) : s.paramReadSlot b = s.refuse 0 :=
  dif_neg (by omega)

/-- A selector is a matter of the port (R163). -/
theorem State.paramReadLane_frame (b : Byte) : s.paramReadLane b = { s with port := (s.paramReadLane b).port } := by
  unfold State.paramReadLane
  split <;> rfl

theorem State.paramReadSlot_frame (b : Byte) : s.paramReadSlot b = { s with port := (s.paramReadSlot b).port } := by
  unfold State.paramReadSlot
  split <;> rfl

theorem State.paramReadLane_outgoing (b : Byte) : (s.paramReadLane b).port.outgoing = s.port.outgoing := by
  unfold State.paramReadLane
  split <;> rfl

theorem State.paramReadSlot_outgoing (b : Byte) : (s.paramReadSlot b).port.outgoing = s.port.outgoing := by
  unfold State.paramReadSlot
  split <;> rfl

end

/-- A reply begins with the byte after its selector (R149, R163). -/
theorem Port.nextOut_reply {p : Port} {c : PortCommand} {reply : List Byte} (hc : p.command = .active c)
    (hr : p.reply = some reply) (hp : p.position = selecting c) : p.nextOut = reply.getD 0 0 := by
  unfold Port.nextOut
  rw [hc, hr]
  dsimp only
  rw [if_pos (Nat.le_of_eq hp.symm), hp, Nat.sub_self]

/-- Settles O60. -/
theorem readsBuildTheirReplies : Obligations.ReadsBuildTheirReplies := by
  intro s hsel hnode
  have hlane : ∀ {b}, Forms s b → s.port.command = .active .readLane → s.port.reply = none →
      exec (.parameterByte b) s = .next (s.atParameter.paramReadLane b) := fun hforms hc hr =>
    (exec_parameterByte hsel hnode hforms hc).trans
      (congrArg Host.Outcome.next (if_neg (show ¬ s.port.reply.isSome = true by rw [hr]; decide)))
  have hslot : ∀ {b}, Forms s b → s.port.command = .active .readSlot → s.port.reply = none →
      exec (.parameterByte b) s = .next (s.atParameter.paramReadSlot b) := fun hforms hc hr =>
    (exec_parameterByte hsel hnode hforms hc).trans
      (congrArg Host.Outcome.next (if_neg (show ¬ s.port.reply.isSome = true by rw [hr]; decide)))
  obtain ⟨hstatus, hlanes, hslots, hcarriers⟩ := s.reply_lengths
  refine ⟨hstatus, hlanes, hslots, hcarriers, fun t k => ⟨?_, ?_⟩, ?_, fun l c u v hc hu hv => ?_, fun i c u hc hu => ?_,
    fun p => ⟨fun he => ?_, fun e he x hx => ?_⟩, fun out hout => ⟨fun hcmd => ⟨fun hforms => ?_, fun hforms hop => ?_⟩,
      fun b hforms hc hr hp => ?_, fun b hforms hc hr hp => ?_⟩⟩
  · rw [Nat.mul_comm]
    exact (ceilDiv_le_iff t 1000000 k (by decide)).symm
  · rw [Nat.mul_comm]
    exact (ceilDiv_le_iff t 1000 k (by decide)).symm
  · exact carriesAt_table s.statusReply_eq (by simp [Placed])
  · exact carriesAt_table (s.laneReply_eq l hc hu hv) (by simp [Placed])
  · exact carriesAt_table (s.slotReply_eq i hc hu) (by simp [Placed])
  · refine s.carriersReply_at p (place := 0) (by decide) fun k hk => ?_
    rw [he, placeBytes_none, Nat.zero_add]
    exact fieldBytes_getElem? 0 hk
  · refine s.carriersReply_at p ?_ ?_
    · simp only [List.mem_cons, List.not_mem_nil, or_false] at hx
      rcases hx with rfl | rfl | rfl | rfl | rfl <;> simp
    · rw [he]
      exact carriesAt_table (placeBytes_some e) (by simp [Placed]) x hx
  · refine ⟨_, exec_readStatus hsel hnode hcmd hforms, rfl, rfl, rfl, rfl, rfl, rfl, ?_, rfl, rfl⟩
    exact s.port.shifted_outgoing.trans hout.symm
  · refine ⟨_, exec_readCarriers hsel hnode hcmd hforms hop, rfl, rfl, rfl, rfl, rfl, ?_, rfl, rfl⟩
    exact s.port.shifted_outgoing.trans hout.symm
  · refine ⟨_, hlane hforms hc hr, ?_, s.atParameter.paramReadLane_frame b, fun l hl => ?_, fun hl => ?_⟩
    · exact (s.atParameter.paramReadLane_outgoing b).trans (s.port.shifted_outgoing.trans hout.symm)
    · rw [s.atParameter.paramReadLane_lane hl]
      exact ⟨rfl, rfl, Port.nextOut_reply hc rfl (congrArg (· + 1) hp)⟩
    · rw [s.atParameter.paramReadLane_refused hl]
      exact ⟨hr, rfl, rfl, rfl⟩
  · refine ⟨_, hslot hforms hc hr, ?_, s.atParameter.paramReadSlot_frame b, fun i hi => ?_, fun hi => ?_⟩
    · exact (s.atParameter.paramReadSlot_outgoing b).trans (s.port.shifted_outgoing.trans hout.symm)
    · rw [s.atParameter.paramReadSlot_slot hi]
      exact ⟨rfl, rfl, Port.nextOut_reply hc rfl (congrArg (· + 1) hp)⟩
    · rw [s.atParameter.paramReadSlot_refused hi]
      exact ⟨hr, rfl, rfl, rfl⟩

end Sys2Proof.Machine
end
